-- ==== Sys2Proof/Word.lean ====
section
/-! DEFINITION. The word types of the synchronizer: bytes, 32-bit command words and fields, 64-bit
counters and offsets (spec/00_scope.md R8, R10). -/

namespace Sys2Proof

/-- A byte, 8 bits, bit 7 the most significant (R8). -/
abbrev Byte := BitVec 8

/-- A sequence of bytes in stream order (R8). -/
abbrev Bytes := List Byte

/-- A 32-bit command word or header field (R9, R56). -/
abbrev Word32 := BitVec 32

/-- A 64-bit counter or stream offset, wrapping modulo 2^64 (R10). -/
abbrev Word64 := BitVec 64

end Sys2Proof
end

