-- ==== Sys2Proof/Records.lean ====
section
/-! DEFINITION. The records of the spec as plain data: header records, identity records, frame and
page records, events, responses, warnings, and the requests and results of the internal units. -/

namespace Sys2Proof

/-- The detected codec, R29. -/
inductive Codec where
  | unset | mpeg | aac | flac | opus | vorbis
deriving DecidableEq, Repr, Inhabited

/-- What a header decoder returns, R11. -/
inductive DecodeResult (α : Type) where
  | parsed (h : α)
  | need (k : Nat)
  | invalid
deriving DecidableEq, Repr, Inhabited

/-! ### MPEG audio, R100 to R109 -/

/-- MPEG version, R102. -/
inductive MpegVersion where
  | mpeg25 | mpeg2 | mpeg1
deriving DecidableEq, Repr, Inhabited

/-- MPEG layer, R102. -/
inductive MpegLayer where
  | layer1 | layer2 | layer3
deriving DecidableEq, Repr, Inhabited

/-- MPEG channel mode, R106. -/
inductive MpegChannelMode where
  | stereo | jointStereo | dualChannel | singleChannel
deriving DecidableEq, Repr, Inhabited

/-- MPEG emphasis, R106. -/
inductive MpegEmphasis where
  | plain | ms50 | ccittJ17
deriving DecidableEq, Repr, Inhabited

/-- The MPEG header record, R109. -/
structure MpegHeader where
  headerLength : Nat
  version : MpegVersion
  layer : MpegLayer
  protection : Bool
  bitrateIndex : BitVec 4
  bitrate : Nat
  sampleRateIndex : BitVec 2
  sampleRate : Nat
  padding : Bool
  paddingBytes : Nat
  privateBit : Bool
  channelMode : MpegChannelMode
  modeExtension : BitVec 2
  copyright : Bool
  original : Bool
  emphasis : MpegEmphasis
  channels : Nat
  samples : Nat
  frameLength : Nat
  bitDepth : Option Nat
deriving DecidableEq, Repr, Inhabited

/-! ### ADTS, R111 to R120 -/

/-- The ADTS header record, R120. -/
structure AdtsHeader where
  headerLength : Nat
  id : Bool
  layer : BitVec 2
  protectionAbsent : Bool
  profile : BitVec 2
  sampleRateIndex : BitVec 4
  sampleRate : Nat
  privateBit : Bool
  channelConfig : BitVec 3
  channels : Nat
  original : Bool
  home : Bool
  copyrightIdBit : Bool
  copyrightIdStart : Bool
  frameLength : Nat
  bufferFullness : Nat
  rawDataBlocks : Nat
  crc : Option (BitVec 16)
  samples : Nat
  audioSpecificConfig : Bytes
  bitrate : Option Nat
  bitDepth : Option Nat
deriving DecidableEq, Repr, Inhabited

/-! ### FLAC, R121 to R132 -/

/-- FLAC channel mode, R125. -/
inductive FlacChannelMode where
  | independent | leftSide | rightSide | midSide
deriving DecidableEq, Repr, Inhabited

/-- The FLAC frame header record, R132. -/
structure FlacHeader where
  headerLength : Nat
  blockingStrategy : Bool
  bsCode : BitVec 4
  blockSize : Nat
  srCode : BitVec 4
  sampleRate : Nat
  chCode : BitVec 4
  channels : Nat
  channelMode : FlacChannelMode
  ssCode : BitVec 3
  bitDepth : Nat
  frameNumber : Option Nat
  sampleNumber : Option Nat
  crc8 : Byte
  samples : Nat
  bitrate : Option Nat
deriving DecidableEq, Repr, Inhabited

/-- STREAMINFO, R227. -/
structure StreamInfo where
  minBlockSize : Nat
  maxBlockSize : Nat
  minFrameSize : Nat
  maxFrameSize : Nat
  sampleRate : Nat
  channels : Nat
  bitsPerSample : Nat
  totalSamples : Nat
  md5 : Bytes
deriving DecidableEq, Repr, Inhabited

/-- The Ogg FLAC identification record, R226. -/
structure OggFlacId where
  majorVersion : Nat
  minorVersion : Nat
  headerPackets : Nat
  streamInfo : StreamInfo
deriving DecidableEq, Repr, Inhabited

/-! ### Ogg page, R188 to R190 -/

/-- The Ogg page header record, R190. -/
structure OggPageHeader where
  version : Nat
  headerType : Byte
  continued : Bool
  firstPage : Bool
  lastPage : Bool
  granulePosition : Int
  serialNumber : Word32
  pageSequenceNumber : Word32
  checksum : Word32
  pageSegments : Nat
  segmentTable : Bytes
  headerLength : Nat
  bodyLength : Nat
  pageLength : Nat
deriving DecidableEq, Repr, Inhabited

/-! ### Opus, R210 to R217 -/

/-- The Opus identification header record, R212. -/
structure OpusId where
  version : Nat
  channels : Nat
  preSkip : Nat
  inputSampleRate : Nat
  outputGain : Int
  mappingFamily : Nat
  streamCount : Nat
  coupledStreamCount : Nat
  channelMapping : Bytes
deriving DecidableEq, Repr, Inhabited

/-- Opus coding mode, R215. -/
inductive OpusMode where
  | silk | hybrid | celt
deriving DecidableEq, Repr, Inhabited

/-- Opus audio bandwidth, R215. -/
inductive OpusBandwidth where
  | narrowband | mediumband | wideband | superwideband | fullband
deriving DecidableEq, Repr, Inhabited

/-- The Opus frame header record, R214: the identification fields and the TOC fields. -/
structure OpusHeader where
  id : OpusId
  config : BitVec 5
  mode : OpusMode
  bandwidth : OpusBandwidth
  frameSize : Nat
  stereo : Bool
  code : BitVec 2
  count : Nat
  vbr : Option Bool
  padding : Option Bool
  sampleRate : Nat
  samples : Nat
  channels : Nat
  bitDepth : Option Nat
  bitrate : Option Nat
deriving DecidableEq, Repr, Inhabited

/-! ### Vorbis, R221 to R225 -/

/-- The Vorbis identification header record, R223 with the fields R171 lists (log entry 19). -/
structure VorbisId where
  channels : Nat
  sampleRate : Nat
  bitrateMaximum : Int
  bitrateNominal : Int
  bitrateMinimum : Int
  blocksize0 : Nat
  blocksize1 : Nat
deriving DecidableEq, Repr, Inhabited

/-- The header record of a Vorbis audio packet, R224. -/
structure VorbisHeader where
  id : VorbisId
  sampleRate : Nat
  channels : Nat
  samples : Nat
  bitDepth : Option Nat
  bitrate : Int
deriving DecidableEq, Repr, Inhabited

/-! ### Headers of any codec, identification headers, identities -/

/-- A frame's header record, R35. -/
inductive Header where
  | mpeg (h : MpegHeader)
  | adts (h : AdtsHeader)
  | flac (h : FlacHeader)
  | opus (h : OpusHeader)
  | vorbis (h : VorbisHeader)
deriving DecidableEq, Repr, Inhabited

/-- The decoded identification header of an Ogg stream, R32. -/
inductive IdHeader where
  | opus (h : OpusId)
  | vorbis (h : VorbisId)
  | flac (h : OggFlacId)
deriving DecidableEq, Repr, Inhabited

/-- MPEG identity fields, R171. -/
structure MpegIdentity where
  version : MpegVersion
  layer : MpegLayer
  sampleRate : Nat
  channelMode : MpegChannelMode
  channels : Nat
  bitrate : Nat
  emphasis : MpegEmphasis
deriving DecidableEq, Repr, Inhabited

/-- AAC identity fields, R171. -/
structure AdtsIdentity where
  id : Bool
  profile : BitVec 2
  sampleRate : Nat
  channelConfig : BitVec 3
  channels : Nat
deriving DecidableEq, Repr, Inhabited

/-- FLAC identity fields, R171. -/
structure FlacIdentity where
  sampleRate : Nat
  channels : Nat
  channelMode : FlacChannelMode
  bitDepth : Nat
  blockingStrategy : Bool
deriving DecidableEq, Repr, Inhabited

/-- Opus identity fields, R171 and R218. -/
structure OpusIdentity where
  channels : Nat
  preSkip : Nat
  inputSampleRate : Nat
  outputGain : Int
  mappingFamily : Nat
  streamCount : Nat
  coupledStreamCount : Nat
  channelMapping : Bytes
deriving DecidableEq, Repr, Inhabited

/-- An identity record, R171. -/
inductive Identity where
  | mpeg (i : MpegIdentity)
  | aac (i : AdtsIdentity)
  | flac (i : FlacIdentity)
  | opus (i : OpusIdentity)
  | vorbis (i : VorbisId)
deriving DecidableEq, Repr, Inhabited

/-! ### Events, R34 to R37 -/

/-- A frame record, R35. Durations are exact rationals in milliseconds (R181). -/
structure FrameRecord where
  codec : Codec
  header : Header
  data : Bytes
  offset : Option Word64
  samples : Nat
  duration : Rat
  frameNumber : Word64
  totalBytesOut : Word64
  totalSamples : Word64
  totalDuration : Rat
  crc32 : Option Word32
  truncated : Bool
  confirmed : Bool
deriving DecidableEq, Repr

/-- A page record, R36. -/
structure PageRecord where
  header : OggPageHeader
  data : Bytes
  offset : Word64
  codecFrames : List FrameRecord
  samples : Nat
  duration : Rat
  totalBytesOut : Word64
  totalSamples : Word64
  totalDuration : Rat
  truncated : Bool
  confirmed : Bool
deriving DecidableEq, Repr

/-- The warnings, R238. -/
inductive Warning where
  | falsePositive     -- W1
  | syncLost          -- W2
  | flacNoFooter      -- W3
  | oggSeqGap         -- W4
  | badPacket         -- W5
  | badIdHeader       -- W6
  | pendingOverflow   -- W7
deriving DecidableEq, Repr

/-- The info a warning carries, R238. -/
inductive WarnInfo where
  | absent
  | length (n : Nat)
  | sequence (last new : Word32)
deriving DecidableEq, Repr

/-- An event of the output queue, R34. -/
inductive Event where
  | frame (f : FrameRecord)
  | page (p : PageRecord)
  | codec (c : Codec)
  | codecHeader (h : Header)
  | codecUpdate (i : Identity)
  | warn (w : Warning) (offset : Word64) (info : WarnInfo)
deriving DecidableEq, Repr

/-! ### Responses, R59, R234 -/

/-- The error codes, R234. -/
inductive ErrorCode where
  | badCmd | unsupported | notConfigured | flushing | badReg
deriving DecidableEq, Repr

/-- The one response of a command, R59. -/
inductive Response where
  | ok
  | accepted (k : Nat)
  | event (e : Event)
  | need (n : Nat)
  | finished
  | codec (c : Codec)
  | reg (v : Word64)
  | err (e : ErrorCode)
deriving DecidableEq, Repr

/-! ### Internal units (model's own, log entry 3) -/

/-- The port of an internal unit: a header decoder, a packet parser, the sniff, or the engines
(R70, R71). -/
inductive Port where
  | mpeg | adts | flac | oggPage | opus | vorbis | oggFlac | skeleton | engine
deriving DecidableEq, Repr

/-- The operands an engine operation is called with (R87 to R89, R95 to R98, R166, R169). -/
structure EngineArgs where
  seq : Bytes
  n : Nat
  off : Nat
  header : Header
  identity : Identity
deriving DecidableEq, Repr, Inhabited

/-- An operation presented to an internal unit: its port, the bytes that encode it (the bytes at the
decoder's start, the packet, or the engine select code), and an engine operation's operands. -/
structure UnitRequest where
  port : Port
  bytes : Bytes
  args : EngineArgs
deriving DecidableEq, Repr

/-- What a packet parser returns, R208: a codec frame, or the packet consumed; or the page the packet
heads is ignored, R202. -/
inductive PacketResult where
  | frame (h : Header)
  | consumed
  | ignored
deriving DecidableEq, Repr

/-- What an internal unit returned last. -/
inductive UnitResult where
  | absent
  | crc8 (c : BitVec 8)
  | crc16 (c : BitVec 16)
  | crc32 (c : BitVec 32)
  | completed
  | satisfied
  | short
  | suspended (n : Nat)
  | lookup (hit : Option (Header × Identity))
  | mpeg (r : DecodeResult MpegHeader)
  | adts (r : DecodeResult AdtsHeader)
  | flac (r : DecodeResult FlacHeader)
  | page (r : DecodeResult OggPageHeader)
  | packet (r : PacketResult)
deriving DecidableEq, Repr

/-! ### Parameters, R6 -/

/-- CRC32_VARIANT, R6 and R99: the default, or another variant, numbered. -/
inductive Crc32Variant where
  | isoHdlc
  | other (k : Nat)
deriving DecidableEq, Repr

/-- The parameters of R6 that are arguments of the model (log entry 4). -/
structure Params where
  bufCap : Nat
  cacheEntries : Nat
  pendCap : Nat
  crc32Variant : Crc32Variant
deriving DecidableEq, Repr

end Sys2Proof
end

