-- ==== Sys2Proof/Syntax.lean ====
section
/-! DEFINITION. The instructions: one constructor per row of spec/opcode_table.json. -/

namespace Sys2Proof

/-- The table's rows. Host commands carry their operand fields (R56); a header decoder carries the
bytes at its start offset (R100, R111, R121, R188); a packet row carries the complete packet (R13);
an engine operation carries its rule's operands (R71). -/
inductive Instr where
  /-- CONFIG, R76: SEL, LOG, CRC. -/
  | config (sel : BitVec 3) (log crc : Bool)
  /-- PUSH, R77: the N data bytes that follow the word. -/
  | push (data : Bytes)
  /-- PULL, R78. -/
  | pull
  /-- FLUSH, R79. -/
  | flush
  /-- GETCODEC, R80. -/
  | getcodec
  /-- RDREG, R81. -/
  | rdreg (reg : Byte)
  /-- MPEG_HDR, R100. -/
  | mpegHdr (view : Bytes)
  /-- ADTS_HDR, R111. -/
  | adtsHdr (view : Bytes)
  /-- FLAC_HDR, R121. -/
  | flacHdr (view : Bytes)
  /-- OGG_PAGE, R188. -/
  | oggPage (view : Bytes)
  /-- OPUS_ID, R210. -/
  | opusId (packet : Bytes)
  /-- OPUS_TAGS, R219. -/
  | opusTags (packet : Bytes)
  /-- OPUS_TOC, R214. -/
  | opusToc (packet : Bytes)
  /-- VORBIS_ID, R223. -/
  | vorbisId (packet : Bytes)
  /-- VORBIS_COMMENT, R225. -/
  | vorbisComment (packet : Bytes)
  /-- VORBIS_SETUP, R225. -/
  | vorbisSetup (packet : Bytes)
  /-- VORBIS_AUDIO, R224. -/
  | vorbisAudio (packet : Bytes)
  /-- OGGFLAC_ID, R226. -/
  | oggflacId (packet : Bytes)
  /-- SKELETON_FISHEAD, R202. -/
  | skeletonFishead (packet : Bytes)
  /-- SKELETON_FISBONE, R202. -/
  | skeletonFisbone (packet : Bytes)
  /-- SKELETON_INDEX, R202. -/
  | skeletonIndex (packet : Bytes)
  /-- CRC8, R95. -/
  | crc8 (s : Bytes)
  /-- CRC16, R96. -/
  | crc16 (s : Bytes)
  /-- CRC32, R98. -/
  | crc32 (s : Bytes)
  /-- APPEND, R87. -/
  | append (d : Bytes)
  /-- REQUIRE, R88. -/
  | require (n off : Nat)
  /-- ADVANCE, R89. -/
  | advance (n : Nat)
  /-- CACHE_LOOKUP, R166. -/
  | cacheLookup (key : Bytes)
  /-- CACHE_STORE, R169. -/
  | cacheStore (key : Bytes) (header : Header) (identity : Identity)
  /-- CACHE_ENABLE, R167. -/
  | cacheEnable
  /-- CACHE_RESET, R168. -/
  | cacheReset
deriving DecidableEq, Repr

end Sys2Proof
end

