-- ==== Sys2Proof/Decode.lean ====
section
/-! DEFINITION. Decoding: the host's command channel and the internal units' requests, total on any
bytes, rejecting by name; the encoder after it, written from the same encodings (spec/30_encoding.md,
spec/opcode_table.json); and the host's reading of the opcode table's words. -/

namespace Sys2Proof

/-! ### Signatures and leading bytes (R62, R65) -/

namespace Pattern

/-- The Opus identification signature "OpusHead", R65. -/
def opusHead : Bytes := [0x4F, 0x70, 0x75, 0x73, 0x48, 0x65, 0x61, 0x64]

/-- The Opus comment signature "OpusTags", R213. -/
def opusTags : Bytes := [0x4F, 0x70, 0x75, 0x73, 0x54, 0x61, 0x67, 0x73]

/-- A Vorbis header signature: the packet type, then "vorbis", R222. -/
def vorbis (type : Byte) : Bytes := [type, 0x76, 0x6F, 0x72, 0x62, 0x69, 0x73]

/-- The Ogg FLAC signature 0x7F "FLAC", R65. -/
def oggFlac : Bytes := [0x7F, 0x46, 0x4C, 0x41, 0x43]

/-- The capture pattern "OggS", R188. -/
def oggS : Bytes := [0x4F, 0x67, 0x67, 0x53]

/-- "fishead" 0x00, R65. -/
def fishead : Bytes := [0x66, 0x69, 0x73, 0x68, 0x65, 0x61, 0x64, 0x00]

/-- "fisbone" 0x00, R65. -/
def fisbone : Bytes := [0x66, 0x69, 0x73, 0x62, 0x6F, 0x6E, 0x65, 0x00]

/-- "index" 0x00 0x00 0x00, R65. -/
def index : Bytes := [0x69, 0x6E, 0x64, 0x65, 0x78, 0x00, 0x00, 0x00]

/-- MPEG: byte 0 is 0xFF and the top three bits of byte 1 are 111, R62 and R101. -/
def mpeg (b : Bytes) : Bool :=
  b.getD 0 0 == 0xFF && (b.getD 1 0 &&& 0xE0) == 0xE0

/-- ADTS: byte 0 is 0xFF, byte 1 is 1111x00x, R62 and R112. -/
def adts (b : Bytes) : Bool :=
  b.getD 0 0 == 0xFF && (b.getD 1 0 &&& 0xF6) == 0xF0

/-- FLAC: byte 0 is 0xFF, byte 1 is 0xF8 or 0xF9, R62 and R122. -/
def flac (b : Bytes) : Bool :=
  b.getD 0 0 == 0xFF && (b.getD 1 0 == 0xF8 || b.getD 1 0 == 0xF9)

end Pattern

/-! ### Command words (R56 to R60) -/

/-- Why an encoding is rejected. -/
inductive DecodeError where
  /-- Opcodes 0x0 and 0x7 to 0xF (R60). -/
  | reservedOpcode (op : BitVec 4)
  /-- A nonzero bit in a field marked zero (R60). -/
  | nonzeroOperand (word : Word32)
  /-- The bytes do not show the port's leading bytes (R72). -/
  | noPattern (port : Port)
  /-- No engine has this select code (R71). -/
  | reservedSelect
deriving DecidableEq, Repr

/-- A decoded command word: a whole command, or PUSH with its count of data bytes still to be read. -/
inductive WordCommand where
  | whole (i : Instr)
  | pushOf (n : Nat)
  | illegal (e : DecodeError)
deriving DecidableEq, Repr

/-- A command word of which the operand field must be zero (R60). -/
def zeroOperand (w : Word32) (width : Nat) (i : Instr) : WordCommand :=
  if w.toNat % 2 ^ 28 / 2 ^ width = 0 then .whole i else .illegal (.nonzeroOperand w)

/-- Decode one command word, R56. -/
def decodeCommandWord (w : Word32) : WordCommand :=
  match w.toNat / 2 ^ 28 with
  | 1 => zeroOperand w 5 (.config (w.extractLsb' 0 3) (w.getLsbD 3) (w.getLsbD 4))
  | 2 => .pushOf (w.toNat % 2 ^ 28)
  | 3 => zeroOperand w 0 .pull
  | 4 => zeroOperand w 0 .flush
  | 5 => zeroOperand w 0 .getcodec
  | 6 => zeroOperand w 8 (.rdreg (w.extractLsb' 0 8))
  | _ => .illegal (.reservedOpcode (w.extractLsb' 28 4))

/-- The command word that four channel bytes hold, most significant first. DESIGN CHOICE (log entry 1),
unsafe: the spec gives a command word no byte order. -/
def commandWord (b0 b1 b2 b3 : Byte) : Word32 :=
  b0 ++ b1 ++ b2 ++ b3

/-- What the head of the command channel holds. -/
inductive ChannelDecode where
  /-- No whole command yet. -/
  | incomplete
  /-- An illegal command word, and what follows it (R60). -/
  | illegal (e : DecodeError) (rest : Bytes)
  /-- A command, and what follows it and its data bytes. -/
  | command (i : Instr) (rest : Bytes)
deriving DecidableEq, Repr

/-- Decode the command at the head of the channel: one word, and N data bytes after a PUSH word
(R56, R58). -/
def decodeChannel : Bytes → ChannelDecode
  | b0 :: b1 :: b2 :: b3 :: rest =>
    match decodeCommandWord (commandWord b0 b1 b2 b3) with
    | .whole i => .command i rest
    | .pushOf n =>
      if n ≤ rest.length then .command (.push (rest.take n)) (rest.drop n) else .incomplete
    | .illegal e => .illegal e rest
  | _ => .incomplete

/-! ### Requests to the internal units (R62, R70, R71) -/

/-- Decode an engine request by its select code, R71. -/
def decodeEngine (sel : Byte) (a : EngineArgs) : Except DecodeError Instr :=
  match sel.toNat with
  | 0x00 => .ok (.crc8 a.seq)
  | 0x01 => .ok (.crc16 a.seq)
  | 0x02 => .ok (.crc32 a.seq)
  | 0x10 => .ok (.append a.seq)
  | 0x11 => .ok (.require a.n a.off)
  | 0x12 => .ok (.advance a.n)
  | 0x20 => .ok (.cacheLookup a.seq)
  | 0x21 => .ok (.cacheStore a.seq a.header a.identity)
  | 0x22 => .ok .cacheEnable
  | 0x23 => .ok .cacheReset
  | _ => .error .reservedSelect

/-- An instruction when its leading bytes are there, R72. -/
def whenPattern (found : Bool) (port : Port) (i : Instr) : Except DecodeError Instr :=
  if found then .ok i else .error (.noPattern port)

/-- Classify a packet of the Opus parser, R213. -/
def decodeOpusPacket (p : Bytes) : Instr :=
  if Pattern.opusHead.isPrefixOf p then .opusId p
  else if Pattern.opusTags.isPrefixOf p then .opusTags p
  else .opusToc p

/-- Classify a packet of the Vorbis parser, R221; an empty packet and an odd first byte without a known
signature are no row of the table. -/
def decodeVorbisPacket (p : Bytes) : Except DecodeError Instr :=
  if (Pattern.vorbis 1).isPrefixOf p then .ok (.vorbisId p)
  else if (Pattern.vorbis 3).isPrefixOf p then .ok (.vorbisComment p)
  else if (Pattern.vorbis 5).isPrefixOf p then .ok (.vorbisSetup p)
  else whenPattern (decide (p ≠ []) && (p.getD 0 0 &&& 1) == 0) .vorbis (.vorbisAudio p)

/-- Classify a first packet by the Ogg Skeleton signatures, R65 and R202. -/
def decodeSkeletonPacket (p : Bytes) : Except DecodeError Instr :=
  if Pattern.fishead.isPrefixOf p then .ok (.skeletonFishead p)
  else if Pattern.fisbone.isPrefixOf p then .ok (.skeletonFisbone p)
  else whenPattern (Pattern.index.isPrefixOf p) .skeleton (.skeletonIndex p)

/-- Decode a request to an internal unit. The port selects the decoder: formats are never tried
against each other (R63, R73). -/
def decodeUnit (r : UnitRequest) : Except DecodeError Instr :=
  match r.port with
  | .mpeg => whenPattern (Pattern.mpeg r.bytes) .mpeg (.mpegHdr r.bytes)
  | .adts => whenPattern (Pattern.adts r.bytes) .adts (.adtsHdr r.bytes)
  | .flac => whenPattern (Pattern.flac r.bytes) .flac (.flacHdr r.bytes)
  | .oggPage => whenPattern (Pattern.oggS.isPrefixOf r.bytes) .oggPage (.oggPage r.bytes)
  | .opus => .ok (decodeOpusPacket r.bytes)
  | .vorbis => decodeVorbisPacket r.bytes
  | .oggFlac => whenPattern (Pattern.oggFlac.isPrefixOf r.bytes) .oggFlac (.oggflacId r.bytes)
  | .skeleton => decodeSkeletonPacket r.bytes
  | .engine =>
    match r.bytes with
    | [sel] => decodeEngine sel r.args
    | _ => .error .reservedSelect

/-! ### The encoder -/

/-- Where an encoded instruction stands: on the host's command channel, or on a unit's port. -/
inductive Encoded where
  | channel (bytes : Bytes)
  | unit (r : UnitRequest)
deriving DecidableEq, Repr

/-- The bytes of a command word, most significant first (log entry 1). -/
def wordBytes (w : Word32) : Bytes :=
  [w.extractLsb' 24 8, w.extractLsb' 16 8, w.extractLsb' 8 8, w.extractLsb' 0 8]

/-- The command word of opcode op with operand bits v, R56. -/
def opWord (op v : Nat) : Word32 :=
  BitVec.ofNat 32 (op * 2 ^ 28 + v)

/-- A request that carries no engine operands. -/
def plainRequest (p : Port) (b : Bytes) : Encoded :=
  .unit ⟨p, b, default⟩

/-- An engine request: the select code (R71) and the operands. -/
def engineRequest (sel : Byte) (a : EngineArgs) : Encoded :=
  .unit ⟨.engine, [sel], a⟩

/-- Encode an instruction, from R56, R62, R65 and R71. -/
def encode : Instr → Encoded
  | .config sel log crc =>
    .channel (wordBytes (opWord 1 (sel.toNat + log.toNat * 2 ^ 3 + crc.toNat * 2 ^ 4)))
  | .push d => .channel (wordBytes (opWord 2 d.length) ++ d)
  | .pull => .channel (wordBytes (opWord 3 0))
  | .flush => .channel (wordBytes (opWord 4 0))
  | .getcodec => .channel (wordBytes (opWord 5 0))
  | .rdreg reg => .channel (wordBytes (opWord 6 reg.toNat))
  | .mpegHdr b => plainRequest .mpeg b
  | .adtsHdr b => plainRequest .adts b
  | .flacHdr b => plainRequest .flac b
  | .oggPage b => plainRequest .oggPage b
  | .opusId p | .opusTags p | .opusToc p => plainRequest .opus p
  | .vorbisId p | .vorbisComment p | .vorbisSetup p | .vorbisAudio p => plainRequest .vorbis p
  | .oggflacId p => plainRequest .oggFlac p
  | .skeletonFishead p | .skeletonFisbone p | .skeletonIndex p => plainRequest .skeleton p
  | .crc8 s => engineRequest 0x00 { (default : EngineArgs) with seq := s }
  | .crc16 s => engineRequest 0x01 { (default : EngineArgs) with seq := s }
  | .crc32 s => engineRequest 0x02 { (default : EngineArgs) with seq := s }
  | .append d => engineRequest 0x10 { (default : EngineArgs) with seq := d }
  | .require n off => engineRequest 0x11 { (default : EngineArgs) with n := n, off := off }
  | .advance n => engineRequest 0x12 { (default : EngineArgs) with n := n }
  | .cacheLookup key => engineRequest 0x20 { (default : EngineArgs) with seq := key }
  | .cacheStore key h i =>
    engineRequest 0x21 { (default : EngineArgs) with seq := key, header := h, identity := i }
  | .cacheEnable => engineRequest 0x22 default
  | .cacheReset => engineRequest 0x23 default

/-- Decode an encoded instruction wherever it stands. -/
def decodeEncoded : Encoded → Option Instr
  | .channel b =>
    match decodeChannel b with
    | .command i [] => some i
    | _ => none
  | .unit r => (decodeUnit r).toOption

/-! ### The opcode table's words (log entry 12) -/

/-- The n bytes of w, most significant first: how the table reads a pattern's leading bytes (R70). -/
def tableBytes : Nat → Nat → Bytes
  | 0, _ => []
  | n + 1, w => BitVec.ofNat 8 (w / 2 ^ (8 * n)) :: tableBytes n w

/-- The leading bytes of a table word on a port, followed by zeros up to the unit's longest header. -/
def zeroFilled (port : Port) (longest : Nat) (b : Bytes) : Encoded :=
  plainRequest port (b ++ List.replicate (longest - b.length) 0)

/-- The engine select codes of R71. -/
def engineSelects : List Nat := [0x00, 0x01, 0x02, 0x10, 0x11, 0x12, 0x20, 0x21, 0x22, 0x23]

/-- Where an opcode-table word of nbits bits stands. 32 bits: the capture pattern "OggS", else a
command word, with N zero data bytes after a PUSH word. 16 bits: the most specific of the FLAC, ADTS
and MPEG patterns. 8 bits: an engine select code, else the Vorbis audio row (bit 0 clear), else the
Opus TOC row. More bits: the signature found. The rows overlap (R73); log entry 12 says how they are
told apart. -/
def placeTableWord (nbits w : Nat) : Option Encoded :=
  let b := tableBytes (nbits / 8) w
  match nbits with
  | 8 =>
    if w ∈ engineSelects then some (engineRequest (BitVec.ofNat 8 w) default)
    else if w % 2 = 0 then some (plainRequest .vorbis b)
    else some (zeroFilled .opus 2 b)
  | 16 =>
    if Pattern.flac b then some (zeroFilled .flac 16 b)
    else if Pattern.adts b then some (zeroFilled .adts 9 b)
    else if Pattern.mpeg b then some (zeroFilled .mpeg 4 b)
    else none
  | 32 =>
    if Pattern.oggS.isPrefixOf b then some (zeroFilled .oggPage 282 b)
    else
      match decodeCommandWord (BitVec.ofNat 32 w) with
      | .pushOf n => some (.channel (b ++ List.replicate n 0))
      | _ => some (.channel b)
  | _ =>
    if Pattern.opusHead.isPrefixOf b || Pattern.opusTags.isPrefixOf b then
      some (zeroFilled .opus 19 b)
    else if (Pattern.vorbis 1).isPrefixOf b || (Pattern.vorbis 3).isPrefixOf b
        || (Pattern.vorbis 5).isPrefixOf b then some (zeroFilled .vorbis 30 b)
    else if Pattern.oggFlac.isPrefixOf b then some (zeroFilled .oggFlac 51 b)
    else if Pattern.fishead.isPrefixOf b || Pattern.fisbone.isPrefixOf b
        || Pattern.index.isPrefixOf b then some (zeroFilled .skeleton 8 b)
    else none

/-- The instruction the decoder reads from an opcode-table word. -/
def decodeTableWord (nbits w : Nat) : Option Instr :=
  match placeTableWord nbits w with
  | some e => decodeEncoded e
  | none => none

end Sys2Proof
end

