-- ==== Sys2Proof/Config.lean ====
section
/-! DEFINITION. The fixed parameters and defaults of spec/00_scope.md R6, and the constants the spec
leaves open, which have no body. -/

namespace Sys2Proof.Config

/-- MIN_FLAC_FRAME, R6 and R153: the two footer bytes. -/
def minFlacFrame : Nat := 2

/-- MAX_FLAC_FRAME, R6: 512 KiB, the header included. -/
def maxFlacFrame : Nat := 524288

/-- The default parameters, R6. -/
def defaultParams : Params where
  bufCap := 1048576
  cacheEntries := 256
  pendCap := 1048576
  crc32Variant := .isoHdlc

/-- The bounds R6 puts on the parameters. -/
def Legal (p : Params) : Bool :=
  decide (1048576 ≤ p.bufCap) && decide (1 ≤ p.cacheEntries) && decide (65025 ≤ p.pendCap)

/-- DESIGN CHOICE (log entry 6): a CRC-32 variant other than the default, of which nothing is known. -/
opaque otherCrc32 : Nat → Bytes → Word32

/-- VORBIS_PACKET_SAMPLES, OPEN (R229, log entry 5): from the opaque state, the identification header,
the setup packet and the packet, the sample count and the next state. -/
opaque vorbisPacketSamples : Nat → VorbisId → Option Bytes → Bytes → Nat × Nat

/-- The initial state of VORBIS_PACKET_SAMPLES (R229, log entry 5). -/
opaque vorbisInitialState : Nat

end Sys2Proof.Config
end

