-- ==== Sys2Proof/Machine/State.lean ====
section
/-! DEFINITION. The machine's state as plain data (spec/10_state.md R15), the reasons a step can stop,
and the state after reset (R41). -/

namespace Sys2Proof.Machine

/-- Why the machine stops. The spec has no fault ("Nothing in this block faults"); these stop only what
it excludes, and no host command raises one. All are safe. -/
inductive Fault where
  /-- APPEND would pass BUF_CAP, which R87 excludes as an operand. Raised by execAppend alone. Safe: the
  spec gives no effect there (log entry 7). -/
  | appendOverflow
  /-- ADVANCE would pass the end of buf, which R89 excludes as an operand. Raised by execAdvance alone.
  Safe: the spec gives no effect there (log entry 7). -/
  | advancePastEnd
  /-- PULL's loop bound ran out. Never raised, by R142 (log entry 8). Safe. -/
  | noProgress
deriving DecidableEq, Repr

/-- Why the machine has no meaning for what it was given. -/
inductive Refusal where
  /-- An instruction without a meaning yet: raised by exec's arm alone. Safe. -/
  | notModelled (mnemonic : String)
  /-- A request on the engine port whose select code R71 does not list: raised by the step. Safe: the
  spec gives no such engine (log entry 3). -/
  | reservedEngineSelect
deriving DecidableEq, Repr

/-- The sync mode, R23. -/
inductive Mode where
  | seeking | synced
deriving DecidableEq, Repr

/-- An entry of the header cache: key, header record, identity record (R25). -/
abbrev CacheEntry := Bytes × Header × Identity

/-- The whole state of one synchronizer (R15), and the model's own fields at the end. -/
structure State where
  /-- R16. -/
  configured : Bool
  /-- R16. -/
  codecSel : BitVec 2
  /-- R16, R18. -/
  logEn : Bool
  /-- R16, R19. -/
  crc32En : Bool
  /-- The accumulator, R20. -/
  buf : Bytes
  /-- R21. -/
  pos : Word64
  /-- R22. -/
  totalIn : Word64
  /-- R23. -/
  mode : Mode
  /-- R24. -/
  flushing : Bool
  /-- R25. -/
  cacheEn : Bool
  /-- R25, sorted by key (log entry 9). -/
  cacheMap : List CacheEntry
  /-- R26. -/
  lastKey : Option Bytes
  /-- R27. -/
  lastAnnounced : Option Identity
  /-- R27. -/
  headerSent : Bool
  /-- R28. -/
  frameNo : Word64
  /-- R28. -/
  totalBytesOut : Word64
  /-- R28. -/
  totalSamples : Word64
  /-- R28. -/
  curRate : Nat
  /-- R29. -/
  codec : Codec
  /-- R30. -/
  pending : Bytes
  /-- R31. -/
  lastSeq : Word32
  /-- R31. -/
  pagesSeen : Nat
  /-- R32. -/
  idHeader : Option IdHeader
  /-- R32. -/
  idRaw : Option Bytes
  /-- R32. -/
  streamInfo : Option StreamInfo
  /-- R32. -/
  vorbisSetup : Option Bytes
  /-- R32, R229 (log entry 5). -/
  vorbisState : Option Nat
  /-- R33. -/
  outQ : List Event
  /-- The model's own: the host's command channel, R56 and R58 (log entry 2). -/
  chan : Bytes
  /-- The model's own: the response of the last command, R59 (log entry 2). -/
  resp : Option Response
  /-- The model's own: the operation presented to an internal unit (log entry 3). -/
  unitReq : Option UnitRequest
  /-- The model's own: what an internal unit returned last (log entry 3). -/
  result : UnitResult
  /-- The model's own: the parameters of R6, which no step writes (log entry 4). -/
  par : Params
deriving DecidableEq, Repr

/-- The state after power-on, R41 and R249; the model's own fields as log entry 14 says. -/
def State.reset : State where
  configured := false
  codecSel := 0
  logEn := false
  crc32En := false
  buf := []
  pos := 0
  totalIn := 0
  mode := .seeking
  flushing := false
  cacheEn := false
  cacheMap := []
  lastKey := none
  lastAnnounced := none
  headerSent := false
  frameNo := 0
  totalBytesOut := 0
  totalSamples := 0
  curRate := 0
  codec := .unset
  pending := []
  lastSeq := 0
  pagesSeen := 0
  idHeader := none
  idRaw := none
  streamInfo := none
  vorbisSetup := none
  vorbisState := none
  outQ := []
  chan := []
  resp := none
  unitReq := none
  result := .absent
  par := Config.defaultParams

end Sys2Proof.Machine
end

