-- ==== Sys2Proof/Machine/Operands.lean ====
section
/-! DEFINITION. Reading operands from bytes: slices, bit fields, byte orders, signs
(spec/00_scope.md R8, R9; spec/30_encoding.md R67). -/

namespace Sys2Proof.Machine

/-- Byte i of s, `s[i]` (R8). Callers read within what a satisfied REQUIRE covers (R43). -/
def byteAt (s : Bytes) (i : Nat) : Byte :=
  s.getD i 0

/-- `s[i:j]`, bytes i up to but excluding j (R8). -/
def slice (s : Bytes) (i j : Nat) : Bytes :=
  (s.drop i).take (j - i)

/-- `v[hi:lo]` of a byte, as an unsigned number (R8). -/
def field (v : Byte) (hi lo : Nat) : Nat :=
  v.toNat / 2 ^ lo % 2 ^ (hi + 1 - lo)

/-- `v[i]` of a byte (R8). -/
def bit (v : Byte) (i : Nat) : Bool :=
  v.getLsbD i

/-- A byte sequence as one big-endian number. -/
def bigEndian (s : Bytes) : Nat :=
  s.foldl (fun v b => v * 2 ^ 8 + b.toNat) 0

/-- A byte sequence as one little-endian number. -/
def littleEndian : Bytes → Nat
  | [] => 0
  | b :: rest => b.toNat + 2 ^ 8 * littleEndian rest

/-- BE16(s, i), R9. -/
def be16 (s : Bytes) (i : Nat) : Nat :=
  (byteAt s i).toNat * 2 ^ 8 + (byteAt s (i + 1)).toNat

/-- BE24(s, i), R9. -/
def be24 (s : Bytes) (i : Nat) : Nat :=
  (byteAt s i).toNat * 2 ^ 16 + (byteAt s (i + 1)).toNat * 2 ^ 8 + (byteAt s (i + 2)).toNat

/-- LE16(s, i), R9. -/
def le16 (s : Bytes) (i : Nat) : Nat :=
  (byteAt s i).toNat + (byteAt s (i + 1)).toNat * 2 ^ 8

/-- LE32(s, i), R9. -/
def le32 (s : Bytes) (i : Nat) : Nat :=
  littleEndian (slice s i (i + 4))

/-- LE64(s, i), R9. -/
def le64 (s : Bytes) (i : Nat) : Nat :=
  littleEndian (slice s i (i + 8))

/-- sext_N(v): an N-bit unsigned number read as two's complement (R9). -/
def sext (n v : Nat) : Int :=
  if 2 ^ (n - 1) ≤ v then (v : Int) - 2 ^ n else v

/-- The byte sequence begins with the signature; one too short does not (R201). -/
def startsWith (signature s : Bytes) : Bool :=
  signature.isPrefixOf s

/-- samples × 1000 / rate, an exact rational number of milliseconds (R181). -/
def milliseconds (samples rate : Nat) : Rat :=
  mkRat (samples * 1000 : Nat) rate

end Sys2Proof.Machine
end

