-- ==== Sys2Proof/Machine/Flags.lean ====
section
/-! DEFINITION. The status and control words, the register map and the numbers of codecs, responses,
events, errors and warnings (spec/10_state.md R16, R29, R38, R39; spec/30_encoding.md R59;
spec/60_exceptions.md R234, R238). The spec has no arithmetic flags. -/

namespace Sys2Proof.Machine

/-- The codec's number, R29. -/
def codecNumber : Codec → Nat
  | .unset => 0
  | .mpeg => 1
  | .aac => 2
  | .flac => 3
  | .opus => 4
  | .vorbis => 5

/-- The response's code, R59. -/
def responseCode : Response → Nat
  | .ok => 0
  | .accepted _ => 1
  | .event _ => 2
  | .need _ => 3
  | .finished => 4
  | .codec _ => 5
  | .reg _ => 6
  | .err _ => 7

/-- The event's kind, R59. -/
def eventKind : Event → Nat
  | .frame _ => 1
  | .page _ => 2
  | .codec _ => 3
  | .codecHeader _ => 4
  | .codecUpdate _ => 5
  | .warn _ _ _ => 6

/-- The error's code, R234. -/
def errorNumber : ErrorCode → Nat
  | .badCmd => 1
  | .unsupported => 2
  | .notConfigured => 3
  | .flushing => 4
  | .badReg => 5

/-- The warning's code, R238. -/
def warningNumber : Warning → Nat
  | .falsePositive => 1
  | .syncLost => 2
  | .flacNoFooter => 3
  | .oggSeqGap => 4
  | .badPacket => 5
  | .badIdHeader => 6
  | .pendingOverflow => 7

/-- The CTRL word, R16: codecSel in [2:0], logEn in [3], crc32En in [4]. -/
def ctrlWord (s : State) : Nat :=
  s.codecSel.toNat + s.logEn.toNat * 2 ^ 3 + s.crc32En.toNat * 2 ^ 4

/-- The STATUS word, R39. -/
def statusWord (s : State) : Nat :=
  s.configured.toNat
    + (decide (s.mode = .synced)).toNat * 2 ^ 1
    + s.flushing.toNat * 2 ^ 2
    + s.cacheEn.toNat * 2 ^ 3
    + s.headerSent.toNat * 2 ^ 4
    + codecNumber s.codec * 2 ^ 5
    + s.idHeader.isSome.toNat * 2 ^ 8
    + (decide (s.pending ≠ [])).toNat * 2 ^ 9

/-- The register map, R38: the value of a register that exists. -/
def readRegister (s : State) (reg : Nat) : Option Word64 :=
  match reg with
  | 0 => some (BitVec.ofNat 64 (ctrlWord s))
  | 1 => some (BitVec.ofNat 64 (statusWord s))
  | 2 => some s.pos
  | 3 => some s.totalIn
  | 4 => some (BitVec.ofNat 64 s.buf.length)
  | 5 => some s.frameNo
  | 6 => some s.totalBytesOut
  | 7 => some s.totalSamples
  | 8 => some (BitVec.ofNat 64 s.curRate)
  | 9 => some (s.lastSeq.setWidth 64)
  | 10 => some (BitVec.ofNat 64 s.pagesSeen)
  | 11 => some (BitVec.ofNat 64 s.pending.length)
  | 12 => some (BitVec.ofNat 64 s.outQ.length)
  | _ => none

end Sys2Proof.Machine
end

