-- ==== Sys2Proof/Machine/Ops.lean ====
section
/-! DEFINITION. The named operations over the state: the accumulator (spec/41_accumulator.md), events
and warnings, error responses (spec/60_exceptions.md), the resets (spec/70_reset_and_hazards.md) and
the header cache (spec/45_cache_stats.md). -/

namespace Sys2Proof.Machine

/-- What a step of the machine answers. -/
abbrev Outcome := Host.Outcome State Fault Refusal

/-! ### The accumulator -/

/-- APPEND, R87: bytes at the tail. -/
def appendBytes (d : Bytes) (s : State) : State :=
  { s with buf := s.buf ++ d, totalIn := s.totalIn + BitVec.ofNat 64 d.length }

/-- ADVANCE, R89: bytes off the head. -/
def advanceBy (n : Nat) (s : State) : State :=
  { s with buf := s.buf.drop n, pos := s.pos + BitVec.ofNat 64 n }

/-- What REQUIRE answers, R88. -/
inductive RequireResult where
  | satisfied
  | short
  | suspends (n : Nat)
deriving DecidableEq, Repr

/-- REQUIRE, R88: n bytes at offset off from the cursor; n = 0 is always satisfied (log entry 21). -/
def requireBytes (n off : Nat) (s : State) : RequireResult :=
  if n = 0 ∨ off + n ≤ s.buf.length then .satisfied
  else if s.flushing then .short
  else .suspends (off + n - s.buf.length)

/-- The byte at a stream offset, if it is buffered: buf[i] stands at offset pos + i (R42, R43), modulo 2^64
(DESIGN CHOICE, log entry 22). -/
def streamByte (s : State) (offset : Word64) : Option Byte :=
  s.buf[(offset - s.pos).toNat]?

/-- The stream space as address and byte pairs, R42: buf[i] stands at offset pos + i, which is assumed not to
wrap, as R259 allows (DESIGN CHOICE, unsafe: log entry 22). -/
def Memory.cells (s : State) : List Host.Cell :=
  s.buf.mapIdx fun i b => (s.pos.toNat + i, b)

/-- The accumulator and the continuation buffer keep their bounds, R20 and R30. -/
def Memory.wf (s : State) : Bool :=
  decide (s.buf.length ≤ s.par.bufCap) && decide (s.pending.length ≤ s.par.pendCap)

/-! ### Events, warnings, responses -/

/-- emit(e), R37: at the tail of outQ. -/
def emit (e : Event) (s : State) : State :=
  { s with outQ := s.outQ ++ [e] }

/-- warn(code, off, info), R238: an event only while logEn is set (R18). -/
def warn (w : Warning) (off : Nat) (info : WarnInfo) (s : State) : State :=
  if s.logEn then emit (.warn w (s.pos + BitVec.ofNat 64 off) info) s else s

/-- The command's one response, R59. -/
def respond (r : Response) (s : State) : Outcome :=
  .next { s with resp := some r }

/-- raise Error(code), R234: the error response is the whole of an exception (R242), and no field of the
spec's state is written. -/
def raiseError (e : ErrorCode) (s : State) : Outcome :=
  respond (.err e) s

/-- An internal unit's result. -/
def unitReturns (r : UnitResult) (s : State) : Outcome :=
  .next { s with result := r }

/-! ### The header cache -/

/-- Lexicographic order of keys, which keeps the cache list canonical (log entry 9). -/
def keyBefore : Bytes → Bytes → Bool
  | [], [] => false
  | [], _ :: _ => true
  | _ :: _, [] => false
  | a :: as, b :: bs => decide (a.toNat < b.toNat) || (decide (a = b) && keyBefore as bs)

/-- The map's value at a key. -/
def cacheFind (m : List CacheEntry) (key : Bytes) : Option (Header × Identity) :=
  match m with
  | [] => none
  | (k, v) :: rest => if k = key then some v else cacheFind rest key

/-- The map with a new key, in key order. -/
def cacheInsert (m : List CacheEntry) (key : Bytes) (v : Header × Identity) : List CacheEntry :=
  match m with
  | [] => [(key, v)]
  | (k, u) :: rest =>
    if keyBefore key k then (key, v) :: (k, u) :: rest else (k, u) :: cacheInsert rest key v

/-- The cache list's canonical form: keys strictly rising. -/
def cacheSorted : List CacheEntry → Bool
  | [] => true
  | [_] => true
  | (a, _) :: (b, v) :: rest => keyBefore a b && cacheSorted ((b, v) :: rest)

/-- CACHE_LOOKUP, R166. -/
def cacheLookup (key : Bytes) (s : State) : Option (Header × Identity) × State :=
  if s.cacheEn then
    match cacheFind s.cacheMap key with
    | some v => (some v, { s with lastKey := some key })
    | none => (none, s)
  else (none, s)

/-- CACHE_ENABLE, R167. -/
def cacheEnable (s : State) : State :=
  { s with cacheEn := true }

/-- CACHE_RESET, R168. -/
def cacheReset (s : State) : State :=
  { s with cacheEn := false, cacheMap := [], lastKey := none }

/-- CACHE_STORE, R169. -/
def cacheStore (key : Bytes) (h : Header) (i : Identity) (s : State) : State :=
  if s.cacheEn then
    let s := { s with lastKey := some key }
    if (cacheFind s.cacheMap key).isSome then s
    else if s.cacheMap.length < s.par.cacheEntries then
      { s with cacheMap := cacheInsert s.cacheMap key (h, i) }
    else s
  else s

/-! ### Resets -/

/-- The stream state that every reset clears: all of R41 but the configuration, codec and outQ. -/
def clearStream (s : State) : State :=
  { s with
    buf := [], pos := 0, totalIn := 0, mode := .seeking, flushing := false,
    cacheEn := false, cacheMap := [], lastKey := none, lastAnnounced := none, headerSent := false,
    frameNo := 0, totalBytesOut := 0, totalSamples := 0, curRate := 0,
    pending := [], lastSeq := 0, pagesSeen := 0,
    idHeader := none, idRaw := none, streamInfo := none, vorbisSetup := none, vorbisState := none }

/-- fullReset(), R75: every field of R41 to its reset value, the configuration included. -/
def fullReset (s : State) : State :=
  { clearStream s with
    configured := false, codecSel := 0, logEn := false, crc32En := false, codec := .unset, outQ := [] }

/-- flushComplete(), R161: the configuration and outQ are kept; the codec too, but in OGG mode. -/
def flushComplete (s : State) : State :=
  { clearStream s with codec := if s.codecSel = 3 then .unset else s.codec }

end Sys2Proof.Machine
end

