-- ==== Sys2Proof/Machine/Adts.lean ====
section
/-! DEFINITION. The ADTS header decoder (spec/43_frame_headers.md R111 to R120). -/

namespace Sys2Proof.Machine

/-- ADTS sampling frequency, R113; 13 to 15 are Invalid. -/
def adtsSampleRate (index : Nat) : Option Nat :=
  [96000, 88200, 64000, 48000, 44100, 32000, 24000, 22050, 16000, 12000, 11025, 8000, 7350][index]?

/-- ADTS channels, R117. -/
def adtsChannels (config : Nat) : Nat :=
  if config = 7 then 8 else config

/-- The two bytes of the audioSpecificConfig, R119. -/
def adtsSpecificConfig (profile rateIndex config : Nat) : Bytes :=
  let asc := (profile + 1) * 2 ^ 11 + rateIndex * 2 ^ 7 + config * 2 ^ 3
  [BitVec.ofNat 8 (asc / 2 ^ 8), BitVec.ofNat 8 asc]

/-- The fields of bytes 0 to 3 that a cached record supplies (R133). -/
structure AdtsFixed where
  id : Bool
  layer : BitVec 2
  protectionAbsent : Bool
  profile : BitVec 2
  sampleRateIndex : BitVec 4
  sampleRate : Nat
  privateBit : Bool
  channelConfig : BitVec 3
  channels : Nat
  original : Bool
  home : Bool
deriving DecidableEq, Repr

/-- The fixed fields of bytes that pass the checks R112 to R114. -/
def adtsFixedOf (b : Bytes) : Option AdtsFixed :=
  let b1 := byteAt b 1
  let b2 := byteAt b 2
  let b3 := byteAt b 3
  let config := field b2 0 0 * 4 + field b3 7 6
  if byteAt b 0 = 0xFF ∧ field b1 7 4 = 15 ∧ field b1 2 1 = 0 then
    match adtsSampleRate (field b2 5 2) with
    | some rate => some {
        id := bit b1 3
        layer := b1.extractLsb' 1 2
        protectionAbsent := bit b1 0
        profile := b2.extractLsb' 6 2
        sampleRateIndex := b2.extractLsb' 2 4
        sampleRate := rate
        privateBit := bit b2 1
        channelConfig := BitVec.ofNat 3 config
        channels := adtsChannels config
        original := bit b3 5
        home := bit b3 4 }
    | none => none
  else none

/-- The fixed fields of a cached record. -/
def AdtsFixed.ofHeader (h : AdtsHeader) : AdtsFixed where
  id := h.id
  layer := h.layer
  protectionAbsent := h.protectionAbsent
  profile := h.profile
  sampleRateIndex := h.sampleRateIndex
  sampleRate := h.sampleRate
  privateBit := h.privateBit
  channelConfig := h.channelConfig
  channels := h.channels
  original := h.original
  home := h.home

/-- Header length, R112. -/
def adtsHeaderLength (protectionAbsent : Bool) : Nat :=
  if protectionAbsent then 7 else 9

/-- Frame length, R115. -/
def adtsFrameLength (b : Bytes) : Nat :=
  field (byteAt b 3) 1 0 * 2 ^ 11 + (byteAt b 4).toNat * 2 ^ 3 + field (byteAt b 5) 7 5

/-- The header record, R120, of the fixed fields and the bytes. -/
def adtsRecord (f : AdtsFixed) (b : Bytes) : AdtsHeader :=
  let length := adtsHeaderLength f.protectionAbsent
  let blocks := field (byteAt b 6) 1 0
  { headerLength := length
    id := f.id
    layer := f.layer
    protectionAbsent := f.protectionAbsent
    profile := f.profile
    sampleRateIndex := f.sampleRateIndex
    sampleRate := f.sampleRate
    privateBit := f.privateBit
    channelConfig := f.channelConfig
    channels := f.channels
    original := f.original
    home := f.home
    copyrightIdBit := bit (byteAt b 3) 3
    copyrightIdStart := bit (byteAt b 3) 2
    frameLength := adtsFrameLength b
    bufferFullness := field (byteAt b 5) 4 0 * 2 ^ 6 + field (byteAt b 6) 7 2
    rawDataBlocks := blocks
    crc := if length = 9 then some (BitVec.ofNat 16 (be16 b 7)) else none
    samples := 1024 * (blocks + 1)
    audioSpecificConfig :=
      adtsSpecificConfig f.profile.toNat f.sampleRateIndex.toNat f.channelConfig.toNat
    bitrate := none
    bitDepth := none }

/-- The cache key of an ADTS frame, R170: bytes 0, 1, 2 and byte 3 AND 0xF0. -/
def adtsKey (b : Bytes) : Bytes :=
  [byteAt b 0, byteAt b 1, byteAt b 2, byteAt b 3 &&& 0xF0]

/-- The cached record under a key, if it is an ADTS one (log entry 10). -/
def cachedAdts : Option (Header × Identity) → Option AdtsFixed
  | some (.adts h, _) => some (AdtsFixed.ofHeader h)
  | _ => none

/-- The ADTS decoder over the bytes at its offset, R111: the length check (R116) stands before the
REQUIRE of the CRC bytes; a hit supplies the fixed fields (R133). -/
def decodeAdts (b : Bytes) (s : State) : DecodeResult AdtsHeader × State :=
  if b.length < 7 then (.need 7, s)
  else
    let (hit, s) := cacheLookup (adtsKey b) s
    match (cachedAdts hit).orElse fun _ => adtsFixedOf b with
    | none => (.invalid, s)
    | some f =>
      let length := adtsHeaderLength f.protectionAbsent
      if adtsFrameLength b < length then (.invalid, s)
      else if b.length < length then (.need length, s)
      else (.parsed (adtsRecord f b), s)

/-- ADTS_HDR, R111. -/
def execAdtsHdr (view : Bytes) (s : State) : Outcome :=
  let (r, s) := decodeAdts view s
  unitReturns (.adts r) s

end Sys2Proof.Machine
end

