-- ==== Sys2Proof/Machine/Crc.lean ====
section
/-! DEFINITION. The CRC engines, pure functions over byte sequences (spec/42_crc.md R94 to R99). -/

namespace Sys2Proof.Machine

/-- One bit of an MSB-first CRC register (R95, R96). -/
def crcShiftLeft {w : Nat} (poly c : BitVec w) : BitVec w :=
  if c.msb then (c <<< 1) ^^^ poly else c <<< 1

/-- One byte into the CRC-8 register, R95. -/
def crc8Byte (c : BitVec 8) (b : Byte) : BitVec 8 :=
  (crcShiftLeft 0x07)^[8] (c ^^^ b)

/-- CRC8, R95. -/
def crc8 (s : Bytes) : BitVec 8 :=
  s.foldl crc8Byte 0

/-- One byte into the CRC-16 register, R96. -/
def crc16Byte (c : BitVec 16) (b : Byte) : BitVec 16 :=
  (crcShiftLeft 0x8005)^[8] (c ^^^ (b.setWidth 16 <<< 8))

/-- CRC16, R96. -/
def crc16 (s : Bytes) : BitVec 16 :=
  s.foldl crc16Byte 0

/-- The FLAC footer test, R97: F has at least two bytes, and the CRC-16 of all but its last two equals
them read big-endian. -/
def footerMatches (f : Bytes) : Bool :=
  decide (2 ≤ f.length) && (crc16 (f.take (f.length - 2))).toNat == be16 f (f.length - 2)

/-- One bit of the reflected CRC-32 register, R99. -/
def crc32Bit (c : BitVec 32) : BitVec 32 :=
  if c.getLsbD 0 then (c >>> 1) ^^^ 0xEDB88320 else c >>> 1

/-- One byte into the CRC-32 register, R99. -/
def crc32Byte (c : BitVec 32) (b : Byte) : BitVec 32 :=
  crc32Bit^[8] (c ^^^ b.setWidth 32)

/-- CRC-32/ISO-HDLC, the default variant, R99. -/
def crc32IsoHdlc (s : Bytes) : BitVec 32 :=
  s.foldl crc32Byte 0xFFFFFFFF ^^^ 0xFFFFFFFF

/-- CRC32 under CRC32_VARIANT, R98 (log entry 6). -/
def crc32 (v : Crc32Variant) (s : Bytes) : BitVec 32 :=
  match v with
  | .isoHdlc => crc32IsoHdlc s
  | .other k => Config.otherCrc32 k s

end Sys2Proof.Machine
end

