-- ==== Sys2Proof/Machine/Flac.lean ====
section
/-! DEFINITION. The FLAC frame header decoder (spec/43_frame_headers.md R121 to R132). -/

namespace Sys2Proof.Machine

/-- A value a code of the fixed bytes gives: the value itself, or how many bytes after the coded number
hold it. -/
inductive FlacCoded where
  | value (n : Nat)
  | extended (bytes : Nat)
deriving DecidableEq, Repr

/-- Block size, R123; 0000 is Invalid. -/
def flacBlockSize (code : Nat) : Option FlacCoded :=
  if code = 0 then none
  else if code = 1 then some (.value 192)
  else if code ≤ 5 then some (.value (576 * 2 ^ (code - 2)))
  else if code = 6 then some (.extended 1)
  else if code = 7 then some (.extended 2)
  else some (.value (256 * 2 ^ (code - 8)))

/-- Sample rate, R124; 0000 needs STREAMINFO, 1111 is Invalid. -/
def flacSampleRate (code : Nat) (si : Option StreamInfo) : Option FlacCoded :=
  match code with
  | 0 => si.map fun i => .value i.sampleRate
  | 12 => some (.extended 1)
  | 13 => some (.extended 2)
  | 14 => some (.extended 2)
  | 15 => none
  | _ =>
    ([88200, 176400, 192000, 8000, 16000, 22050, 24000, 32000, 44100, 48000, 96000][code - 1]?).map
      .value

/-- Channels and channel mode, R125; 1011 to 1111 are Invalid. -/
def flacChannels (code : Nat) : Option (Nat × FlacChannelMode) :=
  match code with
  | 8 => some (2, .leftSide)
  | 9 => some (2, .rightSide)
  | 10 => some (2, .midSide)
  | _ => if code ≤ 7 then some (code + 1, .independent) else none

/-- Sample size, R126; 000 needs STREAMINFO, 011 and 111 are Invalid. -/
def flacBitDepth (code : Nat) (si : Option StreamInfo) : Option Nat :=
  match code with
  | 0 => si.map (·.bitsPerSample)
  | 1 => some 8
  | 2 => some 12
  | 4 => some 16
  | 5 => some 20
  | 6 => some 24
  | _ => none

/-- The fields of bytes 0 to 3, which a cached record supplies (R133). -/
structure FlacFixed where
  blockingStrategy : Bool
  bsCode : BitVec 4
  blockSize : FlacCoded
  srCode : BitVec 4
  sampleRate : FlacCoded
  chCode : BitVec 4
  channels : Nat
  channelMode : FlacChannelMode
  ssCode : BitVec 3
  bitDepth : Nat
deriving DecidableEq, Repr

/-- The fixed fields of bytes that pass the checks R122 to R126. -/
def flacFixedOf (b : Bytes) (si : Option StreamInfo) : Option FlacFixed :=
  let b1 := byteAt b 1
  let b2 := byteAt b 2
  let b3 := byteAt b 3
  if byteAt b 0 = 0xFF ∧ (b1 = 0xF8 ∨ b1 = 0xF9) then
    match flacBlockSize (field b2 7 4), flacSampleRate (field b2 3 0) si,
        flacChannels (field b3 7 4), flacBitDepth (field b3 3 1) si with
    | some size, some rate, some (channels, channelMode), some depth =>
      if bit b3 0 then none
      else some {
        blockingStrategy := bit b1 0
        bsCode := b2.extractLsb' 4 4
        blockSize := size
        srCode := b2.extractLsb' 0 4
        sampleRate := rate
        chCode := b3.extractLsb' 4 4
        channels := channels
        channelMode := channelMode
        ssCode := b3.extractLsb' 1 3
        bitDepth := depth }
    | _, _, _, _ => none
  else none

/-- The fixed fields of a cached record; an extended block size or sample rate is decoded fresh (R133). -/
def FlacFixed.ofHeader (h : FlacHeader) : FlacFixed where
  blockingStrategy := h.blockingStrategy
  bsCode := h.bsCode
  blockSize :=
    match h.bsCode.toNat with
    | 6 => .extended 1
    | 7 => .extended 2
    | _ => .value h.blockSize
  srCode := h.srCode
  sampleRate :=
    match h.srCode.toNat with
    | 12 => .extended 1
    | 13 => .extended 2
    | 14 => .extended 2
    | _ => .value h.sampleRate
  chCode := h.chCode
  channels := h.channels
  channelMode := h.channelMode
  ssCode := h.ssCode
  bitDepth := h.bitDepth

/-- Bytes after the coded number that a value takes (bsExtra, srExtra; R123, R124). -/
def FlacCoded.extra : FlacCoded → Nat
  | .value _ => 0
  | .extended n => n

/-- Length of the coded number by its first byte, R127; 10xxxxxx and 0xFF are Invalid. -/
def codedLength (x : Byte) : Option Nat :=
  let v := x.toNat
  if v < 0x80 then some 1
  else if v < 0xC0 then none
  else if v < 0xE0 then some 2
  else if v < 0xF0 then some 3
  else if v < 0xF8 then some 4
  else if v < 0xFC then some 5
  else if v < 0xFE then some 6
  else if v < 0xFF then some 7
  else none

/-- Header length, R127. -/
def flacHeaderLength (f : FlacFixed) (n : Nat) : Nat :=
  4 + n + f.blockSize.extra + f.sampleRate.extra + 1

/-- The continuation bytes' value, six bits each, after the first byte's bits (R128). -/
def codedTail (first : Nat) (s : Bytes) : Nat :=
  s.foldl (fun v b => v * 2 ^ 6 + field b 5 0) first

/-- The coded number of n bytes, R128; a continuation byte other than 10xxxxxx is Invalid. -/
def codedNumber (s : Bytes) (n : Nat) : Option Nat :=
  let x := byteAt s 0
  let tail := slice s 1 n
  let first := if n = 1 then x.toNat else (x &&& ((0x7F : Byte) >>> n)).toNat
  if tail.all fun b => field b 7 6 == 2 then some (codedTail first tail) else none

/-- Block size, R129, with the extended field at offset e. -/
def flacBlockSizeAt (f : FlacFixed) (b : Bytes) (e : Nat) : Nat :=
  match f.blockSize with
  | .value n => n
  | .extended 1 => (byteAt b e).toNat + 1
  | .extended _ => be16 b e + 1

/-- Sample rate, R130, with the extended field at offset e. -/
def flacSampleRateAt (f : FlacFixed) (b : Bytes) (e : Nat) : Nat :=
  match f.sampleRate with
  | .value n => n
  | .extended 1 => (byteAt b e).toNat * 1000
  | .extended _ => if f.srCode = 14 then be16 b e * 10 else be16 b e

/-- The checks R128 to R131 over a whole header, and its record, R132. -/
def flacRecord (f : FlacFixed) (b : Bytes) (n : Nat) : Option FlacHeader :=
  let length := flacHeaderLength f n
  let size := flacBlockSizeAt f b (4 + n)
  let rate := flacSampleRateAt f b (4 + n + f.blockSize.extra)
  let check := byteAt b (length - 1)
  match codedNumber (b.drop 4) n with
  | none => none
  | some number =>
    if rate = 0 then none
    else if crc8 (b.take (length - 1)) = check then
      some {
        headerLength := length
        blockingStrategy := f.blockingStrategy
        bsCode := f.bsCode
        blockSize := size
        srCode := f.srCode
        sampleRate := rate
        chCode := f.chCode
        channels := f.channels
        channelMode := f.channelMode
        ssCode := f.ssCode
        bitDepth := f.bitDepth
        frameNumber := if f.blockingStrategy then none else some number
        sampleNumber := if f.blockingStrategy then some number else none
        crc8 := check
        samples := size
        bitrate := none }
    else none

/-- The cache key of a FLAC frame, R170: header bytes 0..3. -/
def flacKey (b : Bytes) : Bytes :=
  slice b 0 4

/-- The cached record under a key, if it is a FLAC one (log entry 10). -/
def cachedFlac : Option (Header × Identity) → Option FlacFixed
  | some (.flac h, _) => some (FlacFixed.ofHeader h)
  | _ => none

/-- The FLAC decoder over the bytes at its offset, R121, with si the STREAMINFO record or none. -/
def decodeFlac (b : Bytes) (si : Option StreamInfo) (s : State) :
    DecodeResult FlacHeader × State :=
  if b.length < 4 then (.need 4, s)
  else
    let (hit, s) := cacheLookup (flacKey b) s
    match (cachedFlac hit).orElse fun _ => flacFixedOf b si with
    | none => (.invalid, s)
    | some f =>
      if b.length < 5 then (.need 5, s)
      else
        match codedLength (byteAt b 4) with
        | none => (.invalid, s)
        | some n =>
          let length := flacHeaderLength f n
          if b.length < length then (.need length, s)
          else
            match flacRecord f b n with
            | some h => (.parsed h, s)
            | none => (.invalid, s)

/-- The STREAMINFO a FLAC header may refer to: none in native FLAC, streamInfo in Ogg FLAC (R121,
log entry 18). -/
def flacReference (s : State) : Option StreamInfo :=
  if s.codecSel = 3 then s.streamInfo else none

/-- FLAC_HDR, R121. -/
def execFlacHdr (view : Bytes) (s : State) : Outcome :=
  let (r, s) := decodeFlac view (flacReference s) s
  unitReturns (.flac r) s

end Sys2Proof.Machine
end

