-- ==== Sys2Proof/Machine/Mpeg.lean ====
section
/-! DEFINITION. The MPEG audio header decoder (spec/43_frame_headers.md R100 to R110). -/

namespace Sys2Proof.Machine

/-- MPEG version, R102; 01 is reserved. -/
def mpegVersion (code : Nat) : Option MpegVersion :=
  match code with
  | 0 => some .mpeg25
  | 2 => some .mpeg2
  | 3 => some .mpeg1
  | _ => none

/-- MPEG layer, R102; 00 is reserved. -/
def mpegLayer (code : Nat) : Option MpegLayer :=
  match code with
  | 1 => some .layer3
  | 2 => some .layer2
  | 3 => some .layer1
  | _ => none

/-- A column of R103's table: indices 0001 to 1110, kbit/s. -/
def bitrateColumn (v : MpegVersion) (l : MpegLayer) : List Nat :=
  match v, l with
  | .mpeg1, .layer1 => [32, 64, 96, 128, 160, 192, 224, 256, 288, 320, 352, 384, 416, 448]
  | .mpeg1, .layer2 => [32, 48, 56, 64, 80, 96, 112, 128, 160, 192, 224, 256, 320, 384]
  | .mpeg1, .layer3 => [32, 40, 48, 56, 64, 80, 96, 112, 128, 160, 192, 224, 256, 320]
  | _, .layer1 => [32, 48, 56, 64, 80, 96, 112, 128, 144, 160, 176, 192, 224, 256]
  | _, _ => [8, 16, 24, 32, 40, 48, 56, 64, 80, 96, 112, 128, 144, 160]

/-- MPEG bitrate, R103; 0000 (free format) and 1111 are Invalid. -/
def mpegBitrate (v : MpegVersion) (l : MpegLayer) (index : Nat) : Option Nat :=
  if index = 0 then none else (bitrateColumn v l)[index - 1]?

/-- MPEG sample rate, R104; 11 is Invalid. -/
def mpegSampleRate (v : MpegVersion) (index : Nat) : Option Nat :=
  match v with
  | .mpeg1 => [44100, 48000, 32000][index]?
  | .mpeg2 => [22050, 24000, 16000][index]?
  | .mpeg25 => [11025, 12000, 8000][index]?

/-- MPEG channel mode, R106. -/
def mpegChannelMode (code : Nat) : MpegChannelMode :=
  match code with
  | 0 => .stereo
  | 1 => .jointStereo
  | 2 => .dualChannel
  | _ => .singleChannel

/-- MPEG emphasis, R106; 10 is reserved. -/
def mpegEmphasis (code : Nat) : Option MpegEmphasis :=
  match code with
  | 0 => some .plain
  | 1 => some .ms50
  | 3 => some .ccittJ17
  | _ => none

/-- Samples per frame, R107. -/
def mpegSamples (v : MpegVersion) (l : MpegLayer) : Nat :=
  match l, v with
  | .layer1, _ => 384
  | .layer2, _ => 1152
  | .layer3, .mpeg1 => 1152
  | .layer3, _ => 576

/-- Bytes of the padding slot, R105. -/
def mpegPaddingBytes (l : MpegLayer) (padding : Bool) : Nat :=
  padding.toNat * (if l = .layer1 then 4 else 1)

/-- Frame length, R108: floor(125 × bitrate × samples / sampleRate + paddingBytes). -/
def mpegFrameLength (bitrate samples sampleRate paddingBytes : Nat) : Nat :=
  125 * bitrate * samples / sampleRate + paddingBytes

/-- The header record of four bytes that pass the checks R101 to R108, in that order; none is
Invalid. -/
def mpegFields (b : Bytes) : Option MpegHeader :=
  let b1 := byteAt b 1
  let b2 := byteAt b 2
  let b3 := byteAt b 3
  if byteAt b 0 = 0xFF ∧ field b1 7 5 = 7 then
    match mpegVersion (field b1 4 3), mpegLayer (field b1 2 1) with
    | some v, some l =>
      match mpegBitrate v l (field b2 7 4), mpegSampleRate v (field b2 3 2),
          mpegEmphasis (field b3 1 0) with
      | some bitrate, some rate, some emphasis =>
        let padding := mpegPaddingBytes l (bit b2 1)
        let samples := mpegSamples v l
        let length := mpegFrameLength bitrate samples rate padding
        if length = 0 then none
        else some {
          headerLength := 4
          version := v
          layer := l
          protection := bit b1 0
          bitrateIndex := b2.extractLsb' 4 4
          bitrate := bitrate
          sampleRateIndex := b2.extractLsb' 2 2
          sampleRate := rate
          padding := bit b2 1
          paddingBytes := padding
          privateBit := bit b2 0
          channelMode := mpegChannelMode (field b3 7 6)
          modeExtension := b3.extractLsb' 4 2
          copyright := bit b3 3
          original := bit b3 2
          emphasis := emphasis
          channels := if field b3 7 6 = 3 then 1 else 2
          samples := samples
          frameLength := length
          bitDepth := none }
      | _, _, _ => none
    | _, _ => none
  else none

/-- The cache key of a MPEG frame, R170: header bytes 0..3. -/
def mpegKey (b : Bytes) : Bytes :=
  slice b 0 4

/-- The cached record under a key, if it is a MPEG one (log entry 10). -/
def cachedMpeg : Option (Header × Identity) → Option MpegHeader
  | some (.mpeg h, _) => some h
  | _ => none

/-- The MPEG decoder over the bytes at its offset, R100; the cache is consulted after the REQUIRE, and a
hit supplies the whole header (R133). -/
def decodeMpeg (b : Bytes) (s : State) : DecodeResult MpegHeader × State :=
  if b.length < 4 then (.need 4, s)
  else
    let (hit, s) := cacheLookup (mpegKey b) s
    match cachedMpeg hit with
    | some h => (.parsed h, s)
    | none =>
      match mpegFields b with
      | some h => (.parsed h, s)
      | none => (.invalid, s)

/-- MPEG_HDR, R100. -/
def execMpegHdr (view : Bytes) (s : State) : Outcome :=
  let (r, s) := decodeMpeg view s
  unitReturns (.mpeg r) s

end Sys2Proof.Machine
end

