-- ==== Sys2Proof/Machine/Frames.lean ====
section
/-! DEFINITION. Identity records, cache keys, the callbacks, frame assembly and the statistics
(spec/45_cache_stats.md R170 to R187). -/

namespace Sys2Proof.Machine

/-- A header's sample rate. -/
def headerSampleRate : Header → Nat
  | .mpeg h => h.sampleRate
  | .adts h => h.sampleRate
  | .flac h => h.sampleRate
  | .opus h => h.sampleRate
  | .vorbis h => h.sampleRate

/-- A header's sample count. -/
def headerSamples : Header → Nat
  | .mpeg h => h.samples
  | .adts h => h.samples
  | .flac h => h.samples
  | .opus h => h.samples
  | .vorbis h => h.samples

/-- The Opus identity fields, R171 and R218. -/
def opusIdentity (i : OpusId) : OpusIdentity where
  channels := i.channels
  preSkip := i.preSkip
  inputSampleRate := i.inputSampleRate
  outputGain := i.outputGain
  mappingFamily := i.mappingFamily
  streamCount := i.streamCount
  coupledStreamCount := i.coupledStreamCount
  channelMapping := i.channelMapping

/-- identity(h), R171. -/
def identityOf : Header → Identity
  | .mpeg h => .mpeg {
      version := h.version, layer := h.layer, sampleRate := h.sampleRate,
      channelMode := h.channelMode, channels := h.channels, bitrate := h.bitrate,
      emphasis := h.emphasis }
  | .adts h => .aac {
      id := h.id, profile := h.profile, sampleRate := h.sampleRate,
      channelConfig := h.channelConfig, channels := h.channels }
  | .flac h => .flac {
      sampleRate := h.sampleRate, channels := h.channels, channelMode := h.channelMode,
      bitDepth := h.bitDepth, blockingStrategy := h.blockingStrategy }
  | .opus h => .opus (opusIdentity h.id)
  | .vorbis h => .vorbis h.id

/-- The Opus cache key, R170: idRaw, then the TOC byte. -/
def opusKey (s : State) (packet : Bytes) : Bytes :=
  s.idRaw.getD [] ++ [byteAt packet 0]

/-- key(h), R170, of a frame whose bytes are d. -/
def frameKey (h : Header) (d : Bytes) (s : State) : Bytes :=
  match h with
  | .mpeg _ => mpegKey d
  | .adts _ => adtsKey d
  | .flac _ => flacKey d
  | .opus _ => opusKey s d
  | .vorbis _ => s.idRaw.getD []

/-- CODEC_HEADER, R173: once per stream. -/
def announceHeader (h : Header) (s : State) : State :=
  if s.headerSent then s else { emit (.codecHeader h) s with headerSent := true }

/-- CODEC_UPDATE, R174: when the identity differs from the one last announced. -/
def announceIdentity (i : Identity) (s : State) : State :=
  if s.lastAnnounced = some i then s else { emit (.codecUpdate i) s with lastAnnounced := some i }

/-- announce(h), R173 then R174. -/
def announce (h : Header) (s : State) : State :=
  announceIdentity (identityOf h) (announceHeader h s)

/-- The callbacks and the cache store of an assembled frame: only while the cache is enabled (R172,
R177). -/
def noteFrame (h : Header) (d : Bytes) (s : State) : State :=
  if s.cacheEn then cacheStore (frameKey h d s) h (identityOf h) (announce h s) else s

/-- The counters after a frame, R180. -/
def countFrame (h : Header) (d : Bytes) (s : State) : State :=
  { s with
    curRate := headerSampleRate h
    frameNo := s.frameNo + 1
    totalBytesOut := s.totalBytesOut + BitVec.ofNat 64 d.length
    totalSamples := s.totalSamples + BitVec.ofNat 64 (headerSamples h) }

/-- The frame record, R172 and R180: it carries the totals before it. -/
def frameRecord (h : Header) (d : Bytes) (offset : Option Word64) (confirmed truncated : Bool)
    (s : State) : FrameRecord where
  codec := s.codec
  header := h
  data := d
  offset := offset
  samples := headerSamples h
  duration := milliseconds (headerSamples h) (headerSampleRate h)
  frameNumber := s.frameNo
  totalBytesOut := s.totalBytesOut
  totalSamples := s.totalSamples
  totalDuration := milliseconds s.totalSamples.toNat (headerSampleRate h)
  crc32 := if s.crc32En then some (crc32 s.par.crc32Variant d) else none
  truncated := truncated
  confirmed := confirmed

/-- mapFrame, R172. -/
def mapFrame (h : Header) (d : Bytes) (offset : Option Word64) (confirmed truncated : Bool)
    (s : State) : FrameRecord × State :=
  (frameRecord h d offset confirmed truncated s, countFrame h d (noteFrame h d s))

/-- emitFrame, R172: a frame at the cursor. -/
def emitFrame (h : Header) (d : Bytes) (confirmed truncated : Bool) (s : State) : State :=
  let (f, s) := mapFrame h d (some s.pos) confirmed truncated s
  emit (.frame f) s

/-- The running totalDuration of a page, R185: 0 while curRate is 0. -/
def runningDuration (s : State) : Rat :=
  if s.curRate = 0 then 0 else milliseconds s.totalSamples.toNat s.curRate

/-- A page record, R36 and R185, with the totals of the state it is built in. -/
def pageRecord (h : OggPageHeader) (d : Bytes) (frames : List FrameRecord)
    (confirmed truncated : Bool) (s : State) : PageRecord where
  header := h
  data := d
  offset := s.pos
  codecFrames := frames
  samples := (frames.map (·.samples)).sum
  duration := (frames.map (·.duration)).sum
  totalBytesOut := s.totalBytesOut
  totalSamples := s.totalSamples
  totalDuration := runningDuration s
  truncated := truncated
  confirmed := confirmed

end Sys2Proof.Machine
end

