-- ==== Sys2Proof/Machine/Packets.lean ====
section
/-! DEFINITION. The parsers of Opus, Vorbis and FLAC packets in Ogg (spec/47_ogg_codecs.md R208 to R232).
Each reads one complete packet; one too short is Invalid, never Need (R13). -/

namespace Sys2Proof.Machine

/-- A packet that cannot be decoded: W5, and it is consumed (R209, R238). -/
def badPacket (p : Bytes) (s : State) : PacketResult × State :=
  (.consumed, warn .badPacket 0 (.length p.length) s)

/-- An identification header that is Invalid: W6, and it is consumed (R209, R238). -/
def badIdHeader (p : Bytes) (s : State) : PacketResult × State :=
  (.consumed, warn .badIdHeader 0 (.length p.length) s)

/-! ### Opus -/

/-- Channel mapping checks for family ≠ 0, R211. -/
def opusMappingOk (family channels streams coupled : Nat) (mapping : Bytes) : Bool :=
  (decide (family ≠ 1) || decide (channels ≤ 8)) && decide (1 ≤ streams)
    && decide (coupled ≤ streams) && decide (streams + coupled ≤ 255)
    && mapping.all fun m => decide (m.toNat < streams + coupled) || m == 255

/-- The Opus identification header, R210 to R212; none is Invalid. -/
def decodeOpusId (p : Bytes) : Option OpusId :=
  let c := (byteAt p 9).toNat
  let family := (byteAt p 18).toNat
  let record (n m : Nat) (mapping : Bytes) : OpusId := {
    version := (byteAt p 8).toNat
    channels := c
    preSkip := le16 p 10
    inputSampleRate := le32 p 12
    outputGain := sext 16 (le16 p 16)
    mappingFamily := family
    streamCount := n
    coupledStreamCount := m
    channelMapping := mapping }
  if p.length < 19 then none
  else if byteAt p 8 ≠ 1 then none
  else if c = 0 then none
  else if family = 0 then
    if 2 < c then none else some (record 1 (c - 1) (if c = 1 then [0] else [0, 1]))
  else if p.length < 21 + c then none
  else
    let n := (byteAt p 19).toNat
    let m := (byteAt p 20).toNat
    let mapping := slice p 21 (21 + c)
    if opusMappingOk family c n m mapping then some (record n m mapping) else none

/-- An "OpusHead" packet, R210 and R213. -/
def opusIdPacket (p : Bytes) (s : State) : PacketResult × State :=
  if s.idHeader.isSome then (.consumed, s)
  else
    match decodeOpusId p with
    | some h => (.consumed, { s with idHeader := some (.opus h), idRaw := some p })
    | none => badIdHeader p s

/-- The TOC configuration table, R215: mode, bandwidth, frame size at 48 kHz. -/
def opusConfig (config : Nat) : OpusMode × OpusBandwidth × Nat :=
  let silk := [480, 960, 1920, 2880].getD (config % 4) 0
  let hybrid := [480, 960].getD (config % 2) 0
  let celt := [120, 240, 480, 960].getD (config % 4) 0
  if config < 4 then (.silk, .narrowband, silk)
  else if config < 8 then (.silk, .mediumband, silk)
  else if config < 12 then (.silk, .wideband, silk)
  else if config < 14 then (.hybrid, .superwideband, hybrid)
  else if config < 16 then (.hybrid, .fullband, hybrid)
  else if config < 20 then (.celt, .narrowband, celt)
  else if config < 24 then (.celt, .wideband, celt)
  else if config < 28 then (.celt, .superwideband, celt)
  else (.celt, .fullband, celt)

/-- Frame count by code, R216; none is Invalid. -/
def opusFrameCount (p : Bytes) (frameSize : Nat) : Option Nat :=
  match field (byteAt p 0) 1 0 with
  | 0 => some 1
  | 1 => some 2
  | 2 => some 2
  | _ =>
    let m := field (byteAt p 1) 5 0
    if 2 ≤ p.length ∧ 1 ≤ m ∧ m * frameSize ≤ 5760 then some m else none

/-- The header record of an Opus packet, R214 and R217. -/
def opusRecord (i : OpusId) (config : OpusMode × OpusBandwidth × Nat) (p : Bytes) (count : Nat) :
    OpusHeader :=
  let toc := byteAt p 0
  let code3 := field toc 1 0 = 3
  { id := i
    config := toc.extractLsb' 3 5
    mode := config.1
    bandwidth := config.2.1
    frameSize := config.2.2
    stereo := bit toc 2
    code := toc.extractLsb' 0 2
    count := count
    vbr := if code3 then some (bit (byteAt p 1) 7) else none
    padding := if code3 then some (bit (byteAt p 1) 6) else none
    sampleRate := 48000
    samples := config.2.2 * count
    channels := i.channels
    bitDepth := none
    bitrate := none }

/-- The identification and configuration a cached Opus record supplies, R214 (log entries 10, 11). -/
def cachedOpus : Option (Header × Identity) → Option (OpusId × OpusMode × OpusBandwidth × Nat)
  | some (.opus h, _) => some (h.id, h.mode, h.bandwidth, h.frameSize)
  | _ => none

/-- An Opus audio packet, R214. -/
def opusAudioPacket (p : Bytes) (s : State) : PacketResult × State :=
  match s.idHeader with
  | some (.opus i) =>
    if p.length = 0 then badPacket p s
    else
      let (hit, s) := cacheLookup (opusKey s p) s
      let (i, config) := (cachedOpus hit).getD (i, opusConfig (field (byteAt p 0) 7 3))
      match opusFrameCount p config.2.2 with
      | some count => (.frame (.opus (opusRecord i config p count)), s)
      | none => badPacket p s
  | _ => badPacket p s

/-- opusPacket(P), R213. -/
def opusPacket (p : Bytes) (s : State) : PacketResult × State :=
  if startsWith Pattern.opusHead p then opusIdPacket p s
  else if startsWith Pattern.opusTags p then (.consumed, s)
  else opusAudioPacket p s

/-! ### Vorbis -/

/-- The Vorbis identification header, R223; none is Invalid. -/
def decodeVorbisId (p : Bytes) : Option VorbisId :=
  let e0 := field (byteAt p 28) 3 0
  let e1 := field (byteAt p 28) 7 4
  if p.length < 29 then none
  else if le32 p 7 ≠ 0 then none
  else if byteAt p 11 = 0 ∨ le32 p 12 = 0 then none
  else if e0 < 6 ∨ 13 < e0 ∨ e1 < 6 ∨ 13 < e1 ∨ e1 < e0 then none
  else some {
    channels := (byteAt p 11).toNat
    sampleRate := le32 p 12
    bitrateMaximum := sext 32 (le32 p 16)
    bitrateNominal := sext 32 (le32 p 20)
    bitrateMinimum := sext 32 (le32 p 24)
    blocksize0 := 2 ^ e0
    blocksize1 := 2 ^ e1 }

/-- A 0x01 "vorbis" packet, R221 and R223. -/
def vorbisIdPacket (p : Bytes) (s : State) : PacketResult × State :=
  if s.idHeader.isSome then (.consumed, s)
  else
    match decodeVorbisId p with
    | some h =>
      (.consumed, { s with
        idHeader := some (.vorbis h), idRaw := some p,
        vorbisState := some Config.vorbisInitialState })
    | none => badIdHeader p s

/-- A 0x05 "vorbis" packet, R225: the first is stored whole. -/
def vorbisSetupPacket (p : Bytes) (s : State) : PacketResult × State :=
  if s.vorbisSetup.isSome then (.consumed, s) else (.consumed, { s with vorbisSetup := some p })

/-- A Vorbis audio packet, R224. The sample count is VORBIS_PACKET_SAMPLES' (R229, log entry 5). -/
def vorbisAudioPacket (p : Bytes) (s : State) : PacketResult × State :=
  match s.idHeader with
  | some (.vorbis i) =>
    let r := Config.vorbisPacketSamples (s.vorbisState.getD Config.vorbisInitialState) i s.vorbisSetup p
    (.frame (.vorbis {
      id := i, sampleRate := i.sampleRate, channels := i.channels, samples := r.1,
      bitDepth := none, bitrate := i.bitrateNominal }),
     { s with vorbisState := some r.2 })
  | _ => badPacket p s

/-- vorbisPacket(P), R221. -/
def vorbisPacket (p : Bytes) (s : State) : PacketResult × State :=
  if p.length = 0 then badPacket p s
  else if bit (byteAt p 0) 0 then
    if startsWith (Pattern.vorbis 1) p then vorbisIdPacket p s
    else if startsWith (Pattern.vorbis 3) p then (.consumed, s)
    else if startsWith (Pattern.vorbis 5) p then vorbisSetupPacket p s
    else badPacket p s
  else vorbisAudioPacket p s

/-! ### FLAC in Ogg -/

/-- STREAMINFO, R227. -/
def decodeStreamInfo (s : Bytes) : StreamInfo :=
  let x := bigEndian (slice s 10 18)
  { minBlockSize := be16 s 0
    maxBlockSize := be16 s 2
    minFrameSize := be24 s 4
    maxFrameSize := be24 s 7
    sampleRate := x / 2 ^ 44
    channels := x / 2 ^ 41 % 2 ^ 3 + 1
    bitsPerSample := x / 2 ^ 36 % 2 ^ 5 + 1
    totalSamples := x % 2 ^ 36
    md5 := slice s 18 34 }

/-- The Ogg FLAC identification header, R226; none is Invalid. -/
def decodeOggFlacId (p : Bytes) : Option OggFlacId :=
  if p.length < 51 then none
  else some {
    majorVersion := (byteAt p 5).toNat
    minorVersion := (byteAt p 6).toNat
    headerPackets := be16 p 7
    streamInfo := decodeStreamInfo (slice p 17 51) }

/-- A 0x7F "FLAC" packet, R226 and R228. -/
def oggFlacIdPacket (p : Bytes) (s : State) : PacketResult × State :=
  if s.idHeader.isSome then (.consumed, s)
  else
    match decodeOggFlacId p with
    | some h =>
      (.consumed, { s with
        streamInfo := some h.streamInfo, idHeader := some (.flac h), idRaw := some p })
    | none => badIdHeader p s

/-- A packet that begins like a FLAC frame, R228: the footer is not checked. -/
def oggFlacFramePacket (p : Bytes) (s : State) : PacketResult × State :=
  if s.idHeader.isSome then
    match decodeFlac p s.streamInfo s with
    | (.parsed h, s) => (.frame (.flac h), s)
    | (_, s) => badPacket p s
  else badPacket p s

/-- oggFlacPacket(P), R228. -/
def oggFlacPacket (p : Bytes) (s : State) : PacketResult × State :=
  if startsWith Pattern.oggFlac p then oggFlacIdPacket p s
  else if 2 ≤ p.length ∧ byteAt p 0 = 0xFF ∧ (byteAt p 1 = 0xF8 ∨ byteAt p 1 = 0xF9) then
    oggFlacFramePacket p s
  else (.consumed, s)

/-! ### Dispatch -/

/-- codecPacket(P), R208, by the codec register. With another codec no page reaches it (log entry 10). -/
def codecPacket (p : Bytes) (s : State) : PacketResult × State :=
  match s.codec with
  | .opus => opusPacket p s
  | .vorbis => vorbisPacket p s
  | .flac => oggFlacPacket p s
  | .unset | .mpeg | .aac => (.consumed, s)

/-- A packet parser's answer as a unit result. -/
def packetReturns (r : PacketResult × State) : Outcome :=
  unitReturns (.packet r.1) r.2

/-- OPUS_ID, R210. -/
def execOpusId (p : Bytes) (s : State) : Outcome :=
  packetReturns (opusIdPacket p s)

/-- OPUS_TAGS, R219: consumed without parsing. -/
def execOpusTags (_p : Bytes) (s : State) : Outcome :=
  packetReturns (.consumed, s)

/-- OPUS_TOC, R214. -/
def execOpusToc (p : Bytes) (s : State) : Outcome :=
  packetReturns (opusAudioPacket p s)

/-- VORBIS_ID, R223. -/
def execVorbisId (p : Bytes) (s : State) : Outcome :=
  packetReturns (vorbisIdPacket p s)

/-- VORBIS_COMMENT, R225: consumed without parsing. -/
def execVorbisComment (_p : Bytes) (s : State) : Outcome :=
  packetReturns (.consumed, s)

/-- VORBIS_SETUP, R225. -/
def execVorbisSetup (p : Bytes) (s : State) : Outcome :=
  packetReturns (vorbisSetupPacket p s)

/-- VORBIS_AUDIO, R224. -/
def execVorbisAudio (p : Bytes) (s : State) : Outcome :=
  packetReturns (vorbisAudioPacket p s)

/-- OGGFLAC_ID, R226. -/
def execOggflacId (p : Bytes) (s : State) : Outcome :=
  packetReturns (oggFlacIdPacket p s)

/-- A Skeleton packet at the head of a page: the page is ignored while no codec is set (R202); once one
is set the packet goes to the active codec's parser (R201, log entry 17). -/
def skeletonPacket (p : Bytes) (s : State) : PacketResult × State :=
  if s.codec = .unset then (.ignored, s) else codecPacket p s

/-- SKELETON_FISHEAD, R202. -/
def execSkeletonFishead (p : Bytes) (s : State) : Outcome :=
  packetReturns (skeletonPacket p s)

/-- SKELETON_FISBONE, R202. -/
def execSkeletonFisbone (p : Bytes) (s : State) : Outcome :=
  packetReturns (skeletonPacket p s)

/-- SKELETON_INDEX, R202. -/
def execSkeletonIndex (p : Bytes) (s : State) : Outcome :=
  packetReturns (skeletonPacket p s)

end Sys2Proof.Machine
end

