-- ==== Sys2Proof/Machine/Ogg.lean ====
section
/-! DEFINITION. The Ogg page decoder, page processing and packet reassembly (spec/46_ogg.md R188 to
R207). -/

namespace Sys2Proof.Machine

/-- The page header record of bytes that hold a whole header, R190. -/
def oggPageRecord (b : Bytes) : OggPageHeader :=
  let n := (byteAt b 26).toNat
  let table := slice b 27 (27 + n)
  let body := (table.map BitVec.toNat).sum
  { version := (byteAt b 4).toNat
    headerType := byteAt b 5
    continued := bit (byteAt b 5) 0
    firstPage := bit (byteAt b 5) 1
    lastPage := bit (byteAt b 5) 2
    granulePosition := sext 64 (le64 b 6)
    serialNumber := BitVec.ofNat 32 (le32 b 14)
    pageSequenceNumber := BitVec.ofNat 32 (le32 b 18)
    checksum := BitVec.ofNat 32 (le32 b 22)
    pageSegments := n
    segmentTable := table
    headerLength := 27 + n
    bodyLength := body
    pageLength := 27 + n + body }

/-- decodeOggPage over the bytes at its offset, R188 and R189; never cached. -/
def decodeOggPage (b : Bytes) : DecodeResult OggPageHeader :=
  if b.length < 27 then .need 27
  else if slice b 0 4 ≠ Pattern.oggS then .invalid
  else if byteAt b 4 ≠ 0 then .invalid
  else if field (byteAt b 5) 7 3 ≠ 0 then .invalid
  else
    let n := (byteAt b 26).toNat
    if b.length < 27 + n then .need (27 + n) else .parsed (oggPageRecord b)

/-- OGG_PAGE, R188. -/
def execOggPage (view : Bytes) (s : State) : Outcome :=
  unitReturns (.page (decodeOggPage view)) s

/-- seqCheck(h), R194. -/
def seqCheck (h : OggPageHeader) (s : State) : State :=
  let q := h.pageSequenceNumber
  let s :=
    if s.pagesSeen = 2 ∧ q ≠ s.lastSeq + 1 then warn .oggSeqGap 0 (.sequence s.lastSeq q) s else s
  { s with lastSeq := q, pagesSeen := min 2 (s.pagesSeen + 1) }

/-- A packet of a page and whether it is still open at the page's end (R197). -/
abbrev PagePacket := Bytes × Bool

/-- packets(h, body), R197: cur holds the bytes of the packet begun. -/
def splitPackets (table : Bytes) (body cur : Bytes) : List PagePacket :=
  match table with
  | [] => []
  | v :: rest =>
    let cur := cur ++ body.take v.toNat
    let body := body.drop v.toNat
    if v.toNat < 255 then (cur, false) :: splitPackets rest body []
    else if rest = [] then [(cur, true)]
    else splitPackets rest body cur

/-- setPending(q), R200. -/
def setPending (q : Bytes) (s : State) : State :=
  if q.length ≤ s.par.pendCap then { s with pending := q }
  else warn .pendingOverflow 0 (.length q.length) { s with pending := [] }

/-- The pending bytes in front of the page's first packet, R198. -/
def prependPending (pk : List PagePacket) (s : State) : List PagePacket × State :=
  match pk with
  | (p0, k0) :: rest =>
    if s.pending = [] then (pk, s) else ((s.pending ++ p0, k0) :: rest, { s with pending := [] })
  | [] => ([], s)

/-- The open last packet held back, R198. -/
def holdBack (pk : List PagePacket) (s : State) : List Bytes × State :=
  match pk.getLast? with
  | some (q, true) => (pk.dropLast.map (·.1), setPending q s)
  | _ => (pk.map (·.1), s)

/-- continuation(h, pk), R198: the complete packets only. -/
def continuation (pk : List PagePacket) (s : State) : List Bytes × State :=
  let (pk, s) := prependPending pk s
  holdBack pk s

/-- The codec whose signature a packet begins with, R201 and R65. -/
def sniffCodec (p : Bytes) : Option Codec :=
  if startsWith Pattern.opusHead p then some .opus
  else if startsWith Pattern.oggFlac p then some .flac
  else if startsWith (Pattern.vorbis 1) p then some .vorbis
  else none

/-- sniff(pk), R201. -/
def sniff (pk : List Bytes) (s : State) : Bool × State :=
  match pk with
  | [] => (false, s)
  | p :: _ =>
    match sniffCodec p with
    | some c => (true, emit (.codec c) { s with codec := c })
    | none => (false, s)

/-- dispatch(pk, c), R203. -/
def dispatchPackets (pk : List Bytes) (confirmed : Bool) (s : State) : List FrameRecord × State :=
  match pk with
  | [] => ([], s)
  | p :: rest =>
    match codecPacket p s with
    | (.frame h, s) =>
      let (f, s) := mapFrame h p none confirmed false s
      let (fs, s) := dispatchPackets rest confirmed s
      (f :: fs, s)
    | (_, s) => dispatchPackets rest confirmed s

/-- emitPage, R204. -/
def emitPage (h : OggPageHeader) (page : Bytes) (frames : List FrameRecord) (confirmed : Bool)
    (s : State) : State :=
  emit (.page (pageRecord h page frames confirmed false s)) s

/-- processPage, R193, up to its closing advance; the steps in the source's order. -/
def pageEffects (h : OggPageHeader) (confirmed : Bool) (s : State) : State :=
  let page := s.buf.take h.pageLength
  let body := slice page h.headerLength h.pageLength
  let s := seqCheck h s
  let (pk, s) := continuation (splitPackets h.segmentTable body []) s
  let (known, s) := if s.codec = .unset then sniff pk s else (true, s)
  if known then
    let (frames, s) := dispatchPackets pk confirmed s
    emitPage h page frames confirmed s
  else s

/-- processPage, R193. -/
def processPage (h : OggPageHeader) (confirmed : Bool) (s : State) : State :=
  advanceBy h.pageLength (pageEffects h confirmed s)

/-- truncatedPage, R205: the whole rest of the buffer, undivided. -/
def truncatedPage (h : OggPageHeader) (s : State) : State :=
  let s' :=
    if s.codec = .unset then s
    else emit (.page (pageRecord h s.buf [] (decide (s.mode = .synced)) true s)) s
  advanceBy s.buf.length s'

end Sys2Proof.Machine
end

