-- ==== Sys2Proof/Machine/Sync.lean ====
section
/-! DEFINITION. The sync state machine and the flush (spec/44_sync.md R140 to R161): one atomic
micro-step. -/

namespace Sys2Proof.Machine

/-- What a micro-step answers, R140. -/
inductive MicroOutcome where
  | suspend (n : Nat)
  | flushed (s : State)
  | committed (s : State)
deriving DecidableEq, Repr

/-- A part of a micro-step: it suspends the whole step, or it goes on with a value (R141). -/
inductive Attempt (α : Type) where
  | suspend (n : Nat)
  | value (a : α) (s : State)

/-- The header of a fixed-length unit. -/
inductive UnitHeader where
  | mpeg (h : MpegHeader)
  | adts (h : AdtsHeader)
  | page (h : OggPageHeader)
deriving DecidableEq, Repr

/-- frameLen(h), R147. -/
def unitLength : UnitHeader → Nat
  | .mpeg h => h.frameLength
  | .adts h => h.frameLength
  | .page h => h.pageLength

/-- A decoder's result under a constructor of another record. -/
def mapResult {α β : Type} (f : α → β) : DecodeResult α → DecodeResult β
  | .parsed h => .parsed (f h)
  | .need k => .need k
  | .invalid => .invalid

/-- dec of R140: the decoder codecSel selects, at an offset from the cursor. -/
def decodeAt (off : Nat) (s : State) : DecodeResult UnitHeader × State :=
  let view := s.buf.drop off
  match s.codecSel.toNat with
  | 0 => let (r, s) := decodeMpeg view s; (mapResult .mpeg r, s)
  | 1 => let (r, s) := decodeAdts view s; (mapResult .adts r, s)
  | _ => (mapResult .page (decodeOggPage view), s)

/-- A decoder's unsatisfied REQUIRE at an offset: it suspends, but not while flushing (R88, R136). -/
def orSuspend {α : Type} (off : Nat) (r : DecodeResult α × State) : Attempt (DecodeResult α) :=
  match r with
  | (.need k, s) =>
    if s.flushing then .value (.need k) s else .suspend (off + k - s.buf.length)
  | (r, s) => .value r s

/-- accept(h, L, confirmed), R148. -/
def acceptUnit (h : UnitHeader) (confirmed : Bool) (s : State) : State :=
  match h with
  | .mpeg m =>
    advanceBy m.frameLength (emitFrame (.mpeg m) (s.buf.take m.frameLength) confirmed false s)
  | .adts a =>
    advanceBy a.frameLength (emitFrame (.adts a) (s.buf.take a.frameLength) confirmed false s)
  | .page p => processPage p confirmed s

/-- acceptTruncated(h, L), R148 and R157: the whole rest of the buffer. -/
def acceptTruncated (h : UnitHeader) (s : State) : State :=
  let confirmed := decide (s.mode = .synced)
  match h with
  | .mpeg m => advanceBy s.buf.length (emitFrame (.mpeg m) s.buf confirmed true s)
  | .adts a => advanceBy s.buf.length (emitFrame (.adts a) s.buf confirmed true s)
  | .page p => truncatedPage p s

/-- Sync found: mode SYNCED, cache enabled (R144, R151). -/
def gainSync (s : State) : State :=
  cacheEnable { s with mode := .synced }

/-- Sync lost or not confirmed: mode SEEKING, cache reset, and one byte on (R144, R146, R149, R152). -/
def resync (w : Warning) (s : State) : State :=
  advanceBy 1 (cacheReset { warn w 0 .absent s with mode := .seeking })

/-- The confirming header's outcome in SEEKING, R144. -/
def confirmUnit (h : UnitHeader) (s : State) : MicroOutcome :=
  match orSuspend (unitLength h) (decodeAt (unitLength h) s) with
  | .suspend n => .suspend n
  | .value (.need _) s =>
    if s.buf.length < unitLength h then .committed (acceptTruncated h s)
    else .committed (acceptUnit h false s)
  | .value .invalid s => .committed (resync .falsePositive s)
  | .value (.parsed _) s => .committed (acceptUnit h true (gainSync s))

/-- A unit whose header decodes in SYNCED, R146. -/
def syncedUnit (h : UnitHeader) (s : State) : MicroOutcome :=
  if s.buf.length < unitLength h then
    if s.flushing then .committed (acceptTruncated h s)
    else .suspend (unitLength h - s.buf.length)
  else .committed (acceptUnit h true s)

/-- fixedStep, R144 and R146. A Need is met here only while flushing, and counts as Invalid (R156). -/
def fixedStep (s : State) : MicroOutcome :=
  match orSuspend 0 (decodeAt 0 s) with
  | .suspend n => .suspend n
  | .value (.parsed h) s =>
    match s.mode with
    | .seeking => confirmUnit h s
    | .synced => syncedUnit h s
  | .value _ s =>
    match s.mode with
    | .seeking => .committed (advanceBy 1 s)
    | .synced => .committed (resync .syncLost s)

/-! ### Native FLAC -/

/-- What the footer scan answers, R150. -/
inductive ScanResult where
  | notFound
  | found (p : Nat) (nextHeader : Bool)
deriving DecidableEq, Repr

/-- footerOK(p), R150. -/
def footerOk (p : Nat) (s : State) : Bool :=
  footerMatches (s.buf.take p)

/-- Two bytes that may begin a FLAC header (R150). -/
def flacSyncAt (rest : Bytes) : Bool :=
  byteAt rest 0 == 0xFF && (byteAt rest 1 == 0xF8 || byteAt rest 1 == 0xF9)

/-- flacScan's loop, R150: `tries` candidate ends are left from p on, and rest is the buffer from p. -/
def flacScanFrom (tries p : Nat) (rest : Bytes) (s : State) : Attempt ScanResult :=
  match tries with
  | 0 => .value .notFound s
  | tries + 1 =>
    if s.flushing ∧ s.buf.length < p then .value .notFound s
    else if s.flushing ∧ s.buf.length = p then
      .value (if footerOk p s then .found p false else .notFound) s
    else if s.buf.length < p + 2 then
      if s.flushing then flacScanFrom tries (p + 1) rest.tail s
      else .suspend (p + 2 - s.buf.length)
    else if !flacSyncAt rest then flacScanFrom tries (p + 1) rest.tail s
    else if !footerOk p s then flacScanFrom tries (p + 1) rest.tail s
    else
      match orSuspend p (decodeFlac rest none s) with
      | .suspend n => .suspend n
      | .value (.parsed _) s => .value (.found p true) s
      | .value (.need _) s => .value (.found p false) s
      | .value .invalid s => flacScanFrom tries (p + 1) rest.tail s

/-- flacScan(h), R150: candidate ends from headerLength + MIN_FLAC_FRAME to MAX_FLAC_FRAME. -/
def flacScan (h : FlacHeader) (s : State) : Attempt ScanResult :=
  let first := h.headerLength + Config.minFlacFrame
  flacScanFrom (Config.maxFlacFrame + 1 - first) first (s.buf.drop first) s

/-- A found FLAC frame is emitted, R149 and R151. -/
def acceptFlac (h : FlacHeader) (p : Nat) (nextHeader : Bool) (s : State) : State :=
  let s := if s.mode = .seeking ∧ nextHeader = true then gainSync s else s
  advanceBy p (emitFrame (.flac h) (s.buf.take p) (decide (s.mode = .synced)) false s)

/-- flacStep, R149. -/
def flacStep (s : State) : MicroOutcome :=
  match orSuspend 0 (decodeFlac s.buf none s) with
  | .suspend n => .suspend n
  | .value (.parsed h) s =>
    match flacScan h s with
    | .suspend n => .suspend n
    | .value .notFound s => .committed (resync .flacNoFooter s)
    | .value (.found p c) s => .committed (acceptFlac h p c s)
  | .value _ s =>
    match s.mode with
    | .seeking => .committed (advanceBy 1 s)
    | .synced => .committed (resync .syncLost s)

/-- microStep, R140. -/
def microStep (s : State) : MicroOutcome :=
  if s.flushing ∧ s.buf = [] then .flushed (flushComplete s)
  else if s.codecSel = 2 then flacStep s
  else fixedStep s

end Sys2Proof.Machine
end

