-- ==== Sys2Proof/Machine/Commands.lean ====
section
/-! DEFINITION. The host commands (spec/40_commands.md R75 to R86). The encoding check of R75 is the
decoder's; a meaning begins at the second check. -/

namespace Sys2Proof.Machine

/-- The codec CONFIG sets, R76. -/
def selectedCodec (sel : Nat) : Codec :=
  match sel with
  | 0 => .mpeg
  | 1 => .aac
  | 2 => .flac
  | _ => .unset

/-- The state a successful CONFIG leaves, R76. -/
def configure (sel : BitVec 3) (log crc : Bool) (s : State) : State :=
  let s := { fullReset s with
    codecSel := sel.setWidth 2, logEn := log, crc32En := crc, configured := true,
    codec := selectedCodec sel.toNat }
  if sel.toNat ≤ 2 then emit (.codec s.codec) s else s

/-- CONFIG, R76: the full reset comes first, even when SEL is unsupported (R235). -/
def execConfig (sel : BitVec 3) (log crc : Bool) (s : State) : Outcome :=
  if 4 ≤ sel.toNat then raiseError .unsupported (fullReset s)
  else respond .ok (configure sel log crc s)

/-- PUSH, R77. -/
def execPush (d : Bytes) (s : State) : Outcome :=
  if !s.configured then raiseError .notConfigured s
  else if s.flushing then raiseError .flushing s
  else
    let k := min d.length (s.par.bufCap - s.buf.length)
    respond (.accepted k) (appendBytes (d.take k) s)

/-- PULL's loop, R78, with a bound on its turns (log entry 8). -/
def pullLoop (turns : Nat) (s : State) : Outcome :=
  match turns with
  | 0 => .fault .noProgress
  | turns + 1 =>
    match s.outQ with
    | e :: rest => respond (.event e) { s with outQ := rest }
    | [] =>
      match microStep s with
      | .suspend n => respond (.need n) s
      | .flushed s => respond .finished s
      | .committed s => pullLoop turns s

/-- PULL, R78. Every committed micro-step consumes a byte or queues an event (R142), so that one turn for
each buffered byte and two more are enough. -/
def execPull (s : State) : Outcome :=
  if !s.configured then raiseError .notConfigured s else pullLoop (s.buf.length + 2) s

/-- FLUSH, R79. -/
def execFlush (s : State) : Outcome :=
  if !s.configured then raiseError .notConfigured s else respond .ok { s with flushing := true }

/-- GETCODEC, R80. -/
def execGetcodec (s : State) : Outcome :=
  respond (.codec s.codec) s

/-- RDREG, R81. -/
def execRdreg (reg : Byte) (s : State) : Outcome :=
  match readRegister s reg.toNat with
  | some v => respond (.reg v) s
  | none => raiseError .badReg s

end Sys2Proof.Machine
end

