-- ==== Sys2Proof/Machine/Engines.lean ====
section
/-! DEFINITION. The internal engine operations as instructions (spec/30_encoding.md R71): the CRC
engines, the accumulator and the header cache. -/

namespace Sys2Proof.Machine

/-- CRC8, R95. -/
def execCrc8 (b : Bytes) (s : State) : Outcome :=
  unitReturns (.crc8 (crc8 b)) s

/-- CRC16, R96. -/
def execCrc16 (b : Bytes) (s : State) : Outcome :=
  unitReturns (.crc16 (crc16 b)) s

/-- CRC32, R98. -/
def execCrc32 (b : Bytes) (s : State) : Outcome :=
  unitReturns (.crc32 (crc32 s.par.crc32Variant b)) s

/-- APPEND, R87; past BUF_CAP is no operand of it (log entry 7). -/
def execAppend (d : Bytes) (s : State) : Outcome :=
  if s.buf.length + d.length ≤ s.par.bufCap then unitReturns .completed (appendBytes d s)
  else .fault .appendOverflow

/-- REQUIRE, R88. -/
def execRequire (n off : Nat) (s : State) : Outcome :=
  match requireBytes n off s with
  | .satisfied => unitReturns .satisfied s
  | .short => unitReturns .short s
  | .suspends k => unitReturns (.suspended k) s

/-- ADVANCE, R89; past the end of buf is no operand of it (log entry 7). -/
def execAdvance (n : Nat) (s : State) : Outcome :=
  if n ≤ s.buf.length then unitReturns .completed (advanceBy n s) else .fault .advancePastEnd

/-- CACHE_LOOKUP, R166. -/
def execCacheLookup (key : Bytes) (s : State) : Outcome :=
  let (hit, s) := cacheLookup key s
  unitReturns (.lookup hit) s

/-- CACHE_STORE, R169. -/
def execCacheStore (key : Bytes) (h : Header) (i : Identity) (s : State) : Outcome :=
  unitReturns .completed (cacheStore key h i s)

/-- CACHE_ENABLE, R167. -/
def execCacheEnable (s : State) : Outcome :=
  unitReturns .completed (cacheEnable s)

/-- CACHE_RESET, R168. -/
def execCacheReset (s : State) : Outcome :=
  unitReturns .completed (cacheReset s)

end Sys2Proof.Machine
end

