-- ==== Sys2Proof/Machine/Dispatch.lean ====
section
/-! DEFINITION. One arm per constructor of Instr, each a direct call of its meaning. -/

namespace Sys2Proof.Machine

/-- The meaning of an instruction. -/
def exec (i : Instr) (s : State) : Host.Outcome State Fault Refusal :=
  match i with
  | .config sel log crc => Sys2Proof.Machine.execConfig sel log crc s
  | .push data => Sys2Proof.Machine.execPush data s
  | .pull => Sys2Proof.Machine.execPull s
  | .flush => Sys2Proof.Machine.execFlush s
  | .getcodec => Sys2Proof.Machine.execGetcodec s
  | .rdreg reg => Sys2Proof.Machine.execRdreg reg s
  | .mpegHdr view => Sys2Proof.Machine.execMpegHdr view s
  | .adtsHdr view => Sys2Proof.Machine.execAdtsHdr view s
  | .flacHdr view => Sys2Proof.Machine.execFlacHdr view s
  | .oggPage view => Sys2Proof.Machine.execOggPage view s
  | .opusId packet => Sys2Proof.Machine.execOpusId packet s
  | .opusTags packet => Sys2Proof.Machine.execOpusTags packet s
  | .opusToc packet => Sys2Proof.Machine.execOpusToc packet s
  | .vorbisId packet => Sys2Proof.Machine.execVorbisId packet s
  | .vorbisComment packet => Sys2Proof.Machine.execVorbisComment packet s
  | .vorbisSetup packet => Sys2Proof.Machine.execVorbisSetup packet s
  | .vorbisAudio packet => Sys2Proof.Machine.execVorbisAudio packet s
  | .oggflacId packet => Sys2Proof.Machine.execOggflacId packet s
  | .skeletonFishead packet => Sys2Proof.Machine.execSkeletonFishead packet s
  | .skeletonFisbone packet => Sys2Proof.Machine.execSkeletonFisbone packet s
  | .skeletonIndex packet => Sys2Proof.Machine.execSkeletonIndex packet s
  | .crc8 b => Sys2Proof.Machine.execCrc8 b s
  | .crc16 b => Sys2Proof.Machine.execCrc16 b s
  | .crc32 b => Sys2Proof.Machine.execCrc32 b s
  | .append d => Sys2Proof.Machine.execAppend d s
  | .require n off => Sys2Proof.Machine.execRequire n off s
  | .advance n => Sys2Proof.Machine.execAdvance n s
  | .cacheLookup key => Sys2Proof.Machine.execCacheLookup key s
  | .cacheStore key header identity => Sys2Proof.Machine.execCacheStore key header identity s
  | .cacheEnable => Sys2Proof.Machine.execCacheEnable s
  | .cacheReset => Sys2Proof.Machine.execCacheReset s

end Sys2Proof.Machine
end

