-- ==== Sys2Proof/Machine/Fetch.lean ====
section
/-! DEFINITION. What the step takes next: an operation presented to an internal unit, else the command
at the head of the host's channel (log entries 2, 3, 12). -/

namespace Sys2Proof.Machine

/-- What the machine does next, with the request or the command's bytes taken out of the state. -/
inductive Fetched where
  /-- No whole command on the channel: the block holds its state (R247). -/
  | idle
  /-- A legal instruction. -/
  | run (i : Instr) (s : State)
  /-- An illegal command word, R60. -/
  | illegal (s : State)
  /-- A unit request whose bytes are no row of the port. -/
  | unmatched (r : UnitRequest) (s : State)

/-- Fetch and decode. -/
def fetch (s : State) : Fetched :=
  match s.unitReq with
  | some r =>
    let s := { s with unitReq := none }
    match decodeUnit r with
    | .ok i => .run i s
    | .error _ => .unmatched r s
  | none =>
    match decodeChannel s.chan with
    | .incomplete => .idle
    | .illegal _ rest => .illegal { s with chan := rest }
    | .command i rest => .run i { s with chan := rest }

/-- A unit given bytes that are no row of its port: a header decoder answers Need or Invalid (R100, R111,
R121, R188), a packet parser treats the packet as its rule says (R213, R221, R228), the sniff ignores the
page (R202), and no engine has a reserved select code (R71). -/
def unmatchedUnit (r : UnitRequest) (s : State) : Outcome :=
  match r.port with
  | .mpeg => let (d, s) := decodeMpeg r.bytes s; unitReturns (.mpeg d) s
  | .adts => let (d, s) := decodeAdts r.bytes s; unitReturns (.adts d) s
  | .flac => let (d, s) := decodeFlac r.bytes (flacReference s) s; unitReturns (.flac d) s
  | .oggPage => unitReturns (.page (decodeOggPage r.bytes)) s
  | .opus => packetReturns (opusPacket r.bytes s)
  | .vorbis => packetReturns (vorbisPacket r.bytes s)
  | .oggFlac => packetReturns (oggFlacPacket r.bytes s)
  | .skeleton => packetReturns (skeletonPacket r.bytes s)
  | .engine => .refused .reservedEngineSelect

/-- Place an encoded instruction where the machine fetches next. -/
def placeEncoded (e : Encoded) (s : State) : State :=
  match e with
  | .channel b => { s with unitReq := none, chan := b ++ s.chan }
  | .unit r => { s with unitReq := some r }

end Sys2Proof.Machine
end

