-- ==== Sys2Proof/Machine/Step.lean ====
section
/-! DEFINITION. One step: one host command (R75), or one operation of an internal unit. -/

namespace Sys2Proof.Machine

/-- The step. An illegal command word is answered with E_BAD_CMD (R60). -/
def step (s : State) : Host.Outcome State Fault Refusal :=
  match fetch s with
  | .idle => .next s
  | .run i s' => exec i s'
  | .illegal s' => raiseError .badCmd s'
  | .unmatched r s' => unmatchedUnit r s'

/-- The state with an opcode-table word where the step fetches next (log entry 12). -/
def State.withFetchWord (s : State) (nbits w : Nat) : State :=
  match placeTableWord nbits w with
  | some e => placeEncoded e s
  | none => s

end Sys2Proof.Machine
end

