-- ==== Sys2Proof/WellFormed.lean ====
section
/-! DEFINITION. Which instructions the encodings admit: the PUSH count field (R57) and the leading
bytes each stream pattern requires (R62, R65, R70; spec/opcode_table.json `match` and `mask`). -/

namespace Sys2Proof

/-- The instruction is one the encodings admit. -/
def Instr.wellFormed : Instr → Bool
  | .push d => decide (d.length < 2 ^ 28)
  | .mpegHdr b => Pattern.mpeg b
  | .adtsHdr b => Pattern.adts b
  | .flacHdr b => Pattern.flac b
  | .oggPage b => Pattern.oggS.isPrefixOf b
  | .opusId p => Pattern.opusHead.isPrefixOf p
  | .opusTags p => Pattern.opusTags.isPrefixOf p
  | .opusToc p => !Pattern.opusHead.isPrefixOf p && !Pattern.opusTags.isPrefixOf p
  | .vorbisId p => (Pattern.vorbis 1).isPrefixOf p
  | .vorbisComment p => (Pattern.vorbis 3).isPrefixOf p
  | .vorbisSetup p => (Pattern.vorbis 5).isPrefixOf p
  | .vorbisAudio p => decide (p ≠ []) && (p.getD 0 0 &&& 1) == 0
  | .oggflacId p => Pattern.oggFlac.isPrefixOf p
  | .skeletonFishead p => Pattern.fishead.isPrefixOf p
  | .skeletonFisbone p => Pattern.fisbone.isPrefixOf p
  | .skeletonIndex p => Pattern.index.isPrefixOf p
  | .config _ _ _ | .pull | .flush | .getcodec | .rdreg _ => true
  | .crc8 _ | .crc16 _ | .crc32 _ | .append _ | .require _ _ | .advance _ => true
  | .cacheLookup _ | .cacheStore _ _ _ | .cacheEnable | .cacheReset => true

end Sys2Proof
end

