-- ==== Sys2Proof/Safety.lean ====
section
/-! DEFINITION. The terms claims use: what a good state is, what an event stream shows, and the spec's own
second descriptions of an operation (table-driven CRCs, reassembled header bytes, lacing). -/

namespace Sys2Proof.Machine

/-! ### Good states -/

/-- A configuration that CONFIG can leave: unconfigured and unset, or the codec that
SEL gives, which in OGG mode is one the sniff can find (R29, R76, R201). -/
def codecConsistent (s : State) : Bool :=
  if s.configured then
    match s.codecSel.toNat with
    | 0 => decide (s.codec = .mpeg)
    | 1 => decide (s.codec = .aac)
    | 2 => decide (s.codec = .flac)
    | _ => decide (s.codec ≠ .mpeg ∧ s.codec ≠ .aac)
  else decide (s.codec = .unset) && decide (s.codecSel = 0) && !s.flushing

/-- The identification header fits the codec, and its raw bytes are held exactly when it is (R32). -/
def idConsistent (s : State) : Bool :=
  match s.idHeader with
  | none => decide (s.idRaw = none)
  | some (.opus _) => s.idRaw.isSome && decide (s.codec = .opus)
  | some (.vorbis _) => s.idRaw.isSome && decide (s.codec = .vorbis)
  | some (.flac f) => s.idRaw.isSome && decide (s.codec = .flac) && decide (s.streamInfo = some f.streamInfo)

/-- The invariant of a host-driven machine: no unit request is pending, the parameters are legal (R6), the
accumulator's bounds and count hold (R20, R22, R30, R91), the cache follows the mode (R162), the cache
list is canonical and within its size (R25), and the small registers are in range (R29, R31, R32). -/
def HostInv (s : State) : Prop :=
  s.unitReq = none ∧ Config.Legal s.par = true ∧ Memory.wf s = true
    ∧ s.totalIn = s.pos + BitVec.ofNat 64 s.buf.length
    ∧ (s.cacheEn = true ↔ s.mode = .synced)
    ∧ (s.cacheEn = false → s.cacheMap = [])
    ∧ cacheSorted s.cacheMap = true ∧ s.cacheMap.length ≤ s.par.cacheEntries
    ∧ s.pagesSeen ≤ 2 ∧ codecConsistent s = true ∧ idConsistent s = true

/-- A cache entry holds what decoding its key gives (R55, R170). -/
def entrySound (s : State) (e : CacheEntry) : Bool :=
  let (key, header, identity) := e
  decide (identity = identityOf header) &&
  match header with
  | .mpeg m => decide (key.length = 4) && decide (mpegFields key = some m)
  | .adts a => decide (key.length = 4) && decide (adtsFixedOf key = some (AdtsFixed.ofHeader a))
  | .flac f =>
    decide (key.length = 4)
      && decide (flacFixedOf key (flacReference s) = some (FlacFixed.ofHeader f))
      && (decide (s.codecSel ≠ 3) || s.idHeader.isSome)
  | .opus o =>
    decide (s.idHeader = some (.opus o.id))
      && decide ((o.mode, o.bandwidth, o.frameSize) = opusConfig (field (key.getLastD 0) 7 3))
  | .vorbis v => decide (s.idHeader = some (.vorbis v.id))

/-- Every cache entry holds what decoding its key gives. -/
def CacheSound (s : State) : Prop :=
  s.cacheMap.all (entrySound s) = true

/-- The state with the header cache emptied and disabled: decoding in it never hits. -/
def withoutCache (s : State) : State :=
  { s with cacheEn := false, cacheMap := [] }

/-! ### Outcomes and events -/

/-- A warning event. -/
def isWarning : Event → Bool
  | .warn _ _ _ => true
  | _ => false

/-- A frame or page event that stands unconfirmed or truncated. -/
def isTentative : Event → Bool
  | .frame f => !f.confirmed || f.truncated
  | .page p => !p.confirmed || p.truncated || p.codecFrames.any fun f => !f.confirmed || f.truncated
  | _ => false

/-- A response PULL may give while configured: an event, NEED of at least one byte, or END (R78, R240). -/
def isPullResponse : Response → Bool
  | .event _ | .finished => true
  | .need n => decide (1 ≤ n)
  | _ => false

/-- A micro-step's outcome with a function over its state. -/
def MicroOutcome.map (f : State → State) : MicroOutcome → MicroOutcome
  | .suspend n => .suspend n
  | .flushed s => .flushed (f s)
  | .committed s => .committed (f s)

/-- The state as it is without logging: logEn clear and no WARN queued (R18, R239). -/
def withoutLog (s : State) : State :=
  { s with logEn := false, outQ := s.outQ.filter fun e => !isWarning e }

/-- A frame record without its CRC-32. -/
def dropCrcFrame (f : FrameRecord) : FrameRecord :=
  { f with crc32 := none }

/-- An event without the CRC-32 of its frames. -/
def dropCrcEvent : Event → Event
  | .frame f => .frame (dropCrcFrame f)
  | .page p => .page { p with codecFrames := p.codecFrames.map dropCrcFrame }
  | e => e

/-- The state as it is without CRC-32 computation: crc32En clear and no record carrying one (R19). -/
def withoutCrc (s : State) : State :=
  { s with crc32En := false, outQ := s.outQ.map dropCrcEvent }

/-! ### Command words the encoding forbids, R60 -/

/-- The words R60 makes illegal: a reserved opcode, or a nonzero bit in a field marked zero. -/
def illegalWord (w : Word32) : Prop :=
  let op := w.toNat / 2 ^ 28
  let operand := w.toNat % 2 ^ 28
  op = 0 ∨ 7 ≤ op ∨ (op = 1 ∧ 2 ^ 5 ≤ operand) ∨ (op = 3 ∧ operand ≠ 0) ∨ (op = 4 ∧ operand ≠ 0)
    ∨ (op = 5 ∧ operand ≠ 0) ∨ (op = 6 ∧ 2 ^ 8 ≤ operand)

/-! ### Table-driven CRCs, R94 -/

/-- CRC-8 by table lookup. -/
def tableCrc8 (s : Bytes) : BitVec 8 :=
  s.foldl (fun (c : BitVec 8) (b : Byte) => crc8 [c ^^^ b]) 0

/-- CRC-16 by table lookup: T[i] is CRC16 of the one-byte sequence [i]. -/
def tableCrc16 (s : Bytes) : BitVec 16 :=
  s.foldl (fun (c : BitVec 16) (b : Byte) => (c <<< 8) ^^^ crc16 [c.extractLsb' 8 8 ^^^ b]) 0

/-- The CRC-32 table entry of i, from CRC32 of one byte: its initial and final inversions taken out. -/
def tableEntry32 (i : Byte) : BitVec 32 :=
  crc32IsoHdlc [i ^^^ 0xFF] ^^^ 0xFF000000

/-- CRC-32/ISO-HDLC by table lookup. -/
def tableCrc32 (s : Bytes) : BitVec 32 :=
  s.foldl (fun (c : BitVec 32) (b : Byte) => (c >>> 8) ^^^ tableEntry32 (c.setWidth 8 ^^^ b)) 0xFFFFFFFF ^^^ 0xFFFFFFFF

/-! ### Header bytes put together again from a header record -/

/-- A byte of fields, most significant first. -/
def bitsByte (v : Nat) : Byte := BitVec.ofNat 8 v

/-- MPEG version code, R102. -/
def mpegVersionCode : MpegVersion → Nat
  | .mpeg25 => 0
  | .mpeg2 => 2
  | .mpeg1 => 3

/-- MPEG layer code, R102. -/
def mpegLayerCode : MpegLayer → Nat
  | .layer1 => 3
  | .layer2 => 2
  | .layer3 => 1

/-- MPEG channel mode code, R106. -/
def mpegChannelCode : MpegChannelMode → Nat
  | .stereo => 0
  | .jointStereo => 1
  | .dualChannel => 2
  | .singleChannel => 3

/-- MPEG emphasis code, R106. -/
def mpegEmphasisCode : MpegEmphasis → Nat
  | .plain => 0
  | .ms50 => 1
  | .ccittJ17 => 3

/-- The four bytes of a MPEG header record, R100. -/
def mpegHeaderBytes (h : MpegHeader) : Bytes :=
  [0xFF,
   bitsByte (0xE0 + mpegVersionCode h.version * 8 + mpegLayerCode h.layer * 2 + h.protection.toNat),
   bitsByte (h.bitrateIndex.toNat * 16 + h.sampleRateIndex.toNat * 4 + h.padding.toNat * 2
     + h.privateBit.toNat),
   bitsByte (mpegChannelCode h.channelMode * 64 + h.modeExtension.toNat * 16
     + h.copyright.toNat * 8 + h.original.toNat * 4 + mpegEmphasisCode h.emphasis)]

/-- The first seven bytes of an ADTS header record, R111. -/
def adtsHeaderBytes (h : AdtsHeader) : Bytes :=
  [0xFF,
   bitsByte (0xF0 + h.id.toNat * 8 + h.layer.toNat * 2 + h.protectionAbsent.toNat),
   bitsByte (h.profile.toNat * 64 + h.sampleRateIndex.toNat * 4 + h.privateBit.toNat * 2
     + h.channelConfig.toNat / 4),
   bitsByte (h.channelConfig.toNat % 4 * 64 + h.original.toNat * 32 + h.home.toNat * 16
     + h.copyrightIdBit.toNat * 8 + h.copyrightIdStart.toNat * 4 + h.frameLength / 2 ^ 11),
   bitsByte (h.frameLength / 2 ^ 3 % 2 ^ 8),
   bitsByte (h.frameLength % 2 ^ 3 * 32 + h.bufferFullness / 2 ^ 6),
   bitsByte (h.bufferFullness % 2 ^ 6 * 4 + h.rawDataBlocks)]

/-- A number as n little-endian bytes. -/
def littleBytes (n v : Nat) : Bytes :=
  match n with
  | 0 => []
  | n + 1 => BitVec.ofNat 8 v :: littleBytes n (v / 2 ^ 8)

/-- The bytes of an Ogg page header record, R188. -/
def oggHeaderBytes (h : OggPageHeader) : Bytes :=
  [0x4F, 0x67, 0x67, 0x53, bitsByte h.version, h.headerType]
    ++ littleBytes 8 (h.granulePosition % 2 ^ 64).toNat ++ littleBytes 4 h.serialNumber.toNat
    ++ littleBytes 4 h.pageSequenceNumber.toNat ++ littleBytes 4 h.checksum.toNat
    ++ [bitsByte h.pageSegments] ++ h.segmentTable

/-- Bytes 0 to 3 of a FLAC header record, R121. -/
def flacFixedBytes (h : FlacHeader) : Bytes :=
  [0xFF, bitsByte (0xF8 + h.blockingStrategy.toNat),
   bitsByte (h.bsCode.toNat * 16 + h.srCode.toNat), bitsByte (h.chCode.toNat * 16 + h.ssCode.toNat * 2)]

/-- The 34 bytes of a STREAMINFO record, R227. -/
def streamInfoBytes (i : StreamInfo) : Bytes :=
  (littleBytes 2 i.minBlockSize).reverse ++ (littleBytes 2 i.maxBlockSize).reverse
    ++ (littleBytes 3 i.minFrameSize).reverse ++ (littleBytes 3 i.maxFrameSize).reverse
    ++ (littleBytes 8 (i.sampleRate * 2 ^ 44 + (i.channels - 1) * 2 ^ 41
          + (i.bitsPerSample - 1) * 2 ^ 36 + i.totalSamples)).reverse
    ++ i.md5

/-! ### The tables and the reserved codes of the header formats, as the spec prints them -/

/-- R103's table, row by row: V1L1, V1L2, V1L3, V2L1, V2L23. -/
def bitrateRows : List (List Nat) :=
  [[], [32, 32, 32, 32, 8], [64, 48, 40, 48, 16], [96, 56, 48, 56, 24], [128, 64, 56, 64, 32],
   [160, 80, 64, 80, 40], [192, 96, 80, 96, 48], [224, 112, 96, 112, 56], [256, 128, 112, 128, 64],
   [288, 160, 128, 144, 80], [320, 192, 160, 160, 96], [352, 224, 192, 176, 112],
   [384, 256, 224, 192, 128], [416, 320, 256, 224, 144], [448, 384, 320, 256, 160], []]

/-- R103's column of a version and a layer. -/
def bitrateColumnNumber (v : MpegVersion) (l : MpegLayer) : Nat :=
  if v = .mpeg1 then (if l = .layer1 then 0 else if l = .layer2 then 1 else 2)
  else if l = .layer1 then 3 else 4

/-- R104's table, row by row: MPEG-1, MPEG-2, MPEG-2.5. -/
def sampleRateRows : List (List Nat) :=
  [[44100, 22050, 11025], [48000, 24000, 12000], [32000, 16000, 8000]]

/-- R104's column of a version. -/
def sampleRateColumnNumber : MpegVersion → Nat
  | .mpeg1 => 0
  | .mpeg2 => 1
  | .mpeg25 => 2

/-- The MPEG headers R66 makes Invalid. -/
def mpegReserved (b : Bytes) : Bool :=
  byteAt b 0 != 0xFF || field (byteAt b 1) 7 5 != 7 || field (byteAt b 1) 4 3 == 1
    || field (byteAt b 1) 2 1 == 0 || field (byteAt b 2) 7 4 == 0 || field (byteAt b 2) 7 4 == 15
    || field (byteAt b 2) 3 2 == 3 || field (byteAt b 3) 1 0 == 2

/-- The ADTS headers R66 makes Invalid. -/
def adtsReserved (b : Bytes) : Bool :=
  byteAt b 0 != 0xFF || field (byteAt b 1) 7 4 != 15 || field (byteAt b 1) 2 1 != 0
    || decide (13 ≤ field (byteAt b 2) 5 2)
    || decide (adtsFrameLength b < if bit (byteAt b 1) 0 then 7 else 9)

/-- The codes of bytes 0 to 3 of a FLAC header that R66 makes Invalid. -/
def flacReserved (b : Bytes) (hasInfo : Bool) : Bool :=
  byteAt b 0 != 0xFF || (byteAt b 1 != 0xF8 && byteAt b 1 != 0xF9) || field (byteAt b 2) 7 4 == 0
    || field (byteAt b 2) 3 0 == 15 || (field (byteAt b 2) 3 0 == 0 && !hasInfo)
    || decide (11 ≤ field (byteAt b 3) 7 4) || field (byteAt b 3) 3 1 == 3
    || field (byteAt b 3) 3 1 == 7 || (field (byteAt b 3) 3 1 == 0 && !hasInfo) || bit (byteAt b 3) 0

/-- The header length R127 gives bytes 2 and 4, for a coded number of n bytes. -/
def flacLengthOf (b : Bytes) (n : Nat) : Nat :=
  5 + n + (if field (byteAt b 2) 7 4 = 6 then 1 else if field (byteAt b 2) 7 4 = 7 then 2 else 0)
    + (if field (byteAt b 2) 3 0 = 12 then 1
       else if field (byteAt b 2) 3 0 = 13 ∨ field (byteAt b 2) 3 0 = 14 then 2 else 0)

/-- R127's table of the coded number's first byte, row by row: the bits it fixes, their value, n. -/
def codedLengthRows : List (Byte × Byte × Option Nat) :=
  [(0x80, 0x00, some 1), (0xC0, 0x80, none), (0xE0, 0xC0, some 2), (0xF0, 0xE0, some 3), (0xF8, 0xF0, some 4),
   (0xFC, 0xF8, some 5), (0xFE, 0xFC, some 6), (0xFF, 0xFE, some 7), (0xFF, 0xFF, none)]

/-- The coded number's length by its first byte, R127; none is Invalid. -/
def flacCountOf (x : Byte) : Option Nat :=
  ((codedLengthRows.find? fun r => x &&& r.1 == r.2.1).map fun r => r.2.2).getD none

/-- Offset of the extended sample rate of a FLAC header with a coded number of n bytes, R130. -/
def flacRateOffset (b : Bytes) (n : Nat) : Nat :=
  4 + n + (if field (byteAt b 2) 7 4 = 6 then 1 else if field (byteAt b 2) 7 4 = 7 then 2 else 0)

/-- The sample rate R124 and R130 give a FLAC header with a coded number of n bytes. -/
def flacRateOf (b : Bytes) (n : Nat) (info : Option StreamInfo) : Nat :=
  let e := flacRateOffset b n
  match field (byteAt b 2) 3 0 with
  | 0 => (info.map (·.sampleRate)).getD 0
  | 12 => (byteAt b e).toNat * 1000
  | 13 => be16 b e
  | 14 => be16 b e * 10
  | c => [0, 88200, 176400, 192000, 8000, 16000, 22050, 24000, 32000, 44100, 48000, 96000].getD c 0

/-- The block size R123 and R129 give a FLAC header with a coded number of n bytes. -/
def flacSizeOf (b : Bytes) (n : Nat) : Nat :=
  match field (byteAt b 2) 7 4 with
  | 6 => (byteAt b (4 + n)).toNat + 1
  | 7 => be16 b (4 + n) + 1
  | c => [0, 192, 576, 1152, 2304, 4608, 0, 0, 256, 512, 1024, 2048, 4096, 8192, 16384, 32768].getD c 0

/-- The coded number R128 gives a FLAC header with a coded number of n bytes, most significant six bits
first. -/
def flacNumberOf (b : Bytes) (n : Nat) : Nat :=
  (if n = 1 then (byteAt b 4).toNat else (byteAt b 4).toNat % 2 ^ (7 - n)) * 2 ^ (6 * (n - 1))
    + ((List.range (n - 1)).map fun i => (byteAt b (5 + i)).toNat % 2 ^ 6 * 2 ^ (6 * (n - 2 - i))).sum

/-- The checks R128, R130 and R131 on a whole FLAC header fail. -/
def flacTrailerBad (b : Bytes) (n : Nat) (info : Option StreamInfo) : Bool :=
  ((b.drop 5).take (n - 1)).any (fun x => field x 7 6 != 2)
    || flacRateOf b n info == 0
    || crc8 (b.take (flacLengthOf b n - 1)) != byteAt b (flacLengthOf b n - 1)

/-- R215's frame sizes, by configuration. -/
def opusFrameSizes : List Nat :=
  [480, 960, 1920, 2880, 480, 960, 1920, 2880, 480, 960, 1920, 2880, 480, 960, 480, 960,
   120, 240, 480, 960, 120, 240, 480, 960, 120, 240, 480, 960, 120, 240, 480, 960]

/-- R215's bandwidths, one for each two configurations. -/
def opusBandwidths : List OpusBandwidth :=
  [.narrowband, .narrowband, .mediumband, .mediumband, .wideband, .wideband, .superwideband, .fullband,
   .narrowband, .narrowband, .wideband, .wideband, .superwideband, .superwideband, .fullband, .fullband]

/-- R125's table: channels and channel mode, by code. -/
def flacChannelTable : List (Nat × FlacChannelMode) :=
  [(1, .independent), (2, .independent), (3, .independent), (4, .independent), (5, .independent),
   (6, .independent), (7, .independent), (8, .independent), (2, .leftSide), (2, .rightSide), (2, .midSide)]

/-- An Opus packet R214 and R216 make undecodable: code 3 with no count byte, no frame, or more than
120 ms. -/
def opusCountBad (p : Bytes) : Bool :=
  field (byteAt p 0) 1 0 == 3
    && (decide (p.length < 2) || field (byteAt p 1) 5 0 == 0
      || decide (5760 < field (byteAt p 1) 5 0 * opusFrameSizes.getD (field (byteAt p 0) 7 3) 0))

/-- The Ogg page headers R66 makes Invalid. -/
def oggReserved (b : Bytes) : Bool :=
  b.take 4 != [0x4F, 0x67, 0x67, 0x53] || byteAt b 4 != 0 || decide (8 ≤ (byteAt b 5).toNat)

/-! ### What assembling a frame records, queues and writes, R170 to R181 -/

/-- A header record's samples and sample rate. -/
def samplesAndRate : Header → Nat × Nat
  | .mpeg h => (h.samples, h.sampleRate)
  | .adts h => (h.samples, h.sampleRate)
  | .flac h => (h.samples, h.sampleRate)
  | .opus h => (h.samples, h.sampleRate)
  | .vorbis h => (h.samples, h.sampleRate)

/-- samples × 1000 / sampleRate, exactly, R181. The rate is at least 1 (for 0, log entry 16). -/
def durationOf (samples rate : Nat) : Rat :=
  (samples : Rat) * 1000 / (rate : Rat)

/-- R171's fields of each codec's header, in the order its table gives them. -/
def identityFields : Header → Identity
  | .mpeg h => .mpeg ⟨h.version, h.layer, h.sampleRate, h.channelMode, h.channels, h.bitrate, h.emphasis⟩
  | .adts h => .aac ⟨h.id, h.profile, h.sampleRate, h.channelConfig, h.channels⟩
  | .flac h => .flac ⟨h.sampleRate, h.channels, h.channelMode, h.bitDepth, h.blockingStrategy⟩
  | .opus h => .opus ⟨h.id.channels, h.id.preSkip, h.id.inputSampleRate, h.id.outputGain, h.id.mappingFamily,
      h.id.streamCount, h.id.coupledStreamCount, h.id.channelMapping⟩
  | .vorbis h => .vorbis ⟨h.id.channels, h.id.sampleRate, h.id.bitrateMaximum, h.id.bitrateNominal,
      h.id.bitrateMinimum, h.id.blocksize0, h.id.blocksize1⟩

/-- R170's key of a frame whose bytes are d. -/
def cacheKeyOf (h : Header) (d : Bytes) (idRaw : Option Bytes) : Bytes :=
  match h with
  | .mpeg _ | .flac _ => d.take 4
  | .adts _ => [byteAt d 0, byteAt d 1, byteAt d 2, byteAt d 3 &&& 0xF0]
  | .opus _ => idRaw.getD [] ++ [byteAt d 0]
  | .vorbis _ => idRaw.getD []

/-- The callbacks a frame of this header queues, R173, R174 and R177: CODEC_HEADER, then CODEC_UPDATE. -/
def callbacksOf (h : Header) (s : State) : List Event :=
  (if s.cacheEn = true ∧ s.headerSent = false then [.codecHeader h] else [])
    ++ (if s.cacheEn = true ∧ s.lastAnnounced ≠ some (identityFields h) then [.codecUpdate (identityFields h)]
        else [])

/-- The frame record, R172, R180 and R181: the totals are those before the frame. -/
def assembledFrame (h : Header) (d : Bytes) (offset : Option Word64) (confirmed truncated : Bool) (s : State) :
    FrameRecord where
  codec := s.codec
  header := h
  data := d
  offset := offset
  samples := (samplesAndRate h).1
  duration := durationOf (samplesAndRate h).1 (samplesAndRate h).2
  frameNumber := s.frameNo
  totalBytesOut := s.totalBytesOut
  totalSamples := s.totalSamples
  totalDuration := durationOf s.totalSamples.toNat (samplesAndRate h).2
  crc32 := if s.crc32En then some (crc32 s.par.crc32Variant d) else none
  truncated := truncated
  confirmed := confirmed

/-- The state a frame leaves, R169, R172 to R174, R177 and R180: its callbacks queued, the cache and the
announcement written while the cache is enabled, the counters advanced. -/
def afterFrame (h : Header) (d : Bytes) (s : State) : State :=
  let key := cacheKeyOf h d s.idRaw
  { s with
    outQ := s.outQ ++ callbacksOf h s
    headerSent := s.headerSent || s.cacheEn
    lastAnnounced := if s.cacheEn then some (identityFields h) else s.lastAnnounced
    lastKey := if s.cacheEn then some key else s.lastKey
    cacheMap := if s.cacheEn then (cacheStore key h (identityFields h) s).cacheMap else s.cacheMap
    frameNo := s.frameNo + 1
    totalBytesOut := s.totalBytesOut + BitVec.ofNat 64 d.length
    totalSamples := s.totalSamples + BitVec.ofNat 64 (samplesAndRate h).1
    curRate := (samplesAndRate h).2 }

/-! ### Runs of PULL, R69 -/

/-- DRAIN: PULL until a response that is no event; the events returned and the state left. The bound is the
number of PULLs. -/
def drain (pulls : Nat) (s : State) : Option (List Event × State) :=
  match pulls with
  | 0 => none
  | pulls + 1 =>
    match exec .pull s with
    | .next t =>
      match t.resp with
      | some (.event e) => (drain pulls t).map fun r => (e :: r.1, r.2)
      | _ => some ([], t)
    | _ => none

/-! ### Lacing, R195 -/

/-- The lacing values of a complete packet of n bytes. -/
def lacing (n : Nat) : Bytes :=
  List.replicate (n / 255) 255 ++ [BitVec.ofNat 8 (n % 255)]

/-- A page's segment table for complete packets. -/
def laceAll (ps : List Bytes) : Bytes :=
  ps.flatMap fun p => lacing p.length

/-- The data bytes of a list of frames, as totalBytesOut counts them (R180, R184). -/
def frameBytes (fs : List FrameRecord) : Nat := (fs.map fun f => f.data.length).sum

/-- The samples of a list of frames. -/
def frameSamples (fs : List FrameRecord) : Nat := (fs.map fun f => f.samples).sum

end Sys2Proof.Machine
end

