-- ==== Sys2Proof/Certificates/Slice0/Obligations.lean ====
section
/-! DEFINITION. The statements for the provers. -/

section

open Sys2Proof Sys2Proof.Machine

/-- A step runs the instruction it decodes, holds the state when there is none, and gives a unit's unmatched
bytes to the unit's rule: R56, R58, R71, R72, R75, R202, R209, R221, R228, R247. With no unit request
pending, a channel that decodes to i with rest behind it gives exec i on the state with the rest on the
channel, and one with no whole command gives the same state. A unit request that decodes to i gives exec
i with the request taken out; one that is no row of its port gives unmatchedUnit: a header decoder
answers as for any bytes; an empty Vorbis packet, or an odd first byte without a Vorbis signature, is W5;
an Ogg FLAC packet that begins like a frame is W5 without idHeader, else the frame decodeFlac parses
under streamInfo, or W5; any other Ogg FLAC packet but the identification packet is consumed; the sniff
ignores the page while no codec is set. Channel, ports and the answer to unmatched bytes are the model's
(log entries 1, 2, 3). -/
def Obligations.StepRunsDecodedInstruction : Prop :=
    ∀ s : State,
    let s' : State := { s with unitReq := none }
    let consumed (t : State) : Outcome := .next { t with result := .packet .consumed }
    (∀ i rest, s.unitReq = none → decodeChannel s.chan = .command i rest →
      step s = exec i { s with chan := rest }) ∧
    (s.unitReq = none → decodeChannel s.chan = .incomplete → step s = .next s) ∧
    (∀ r i, s.unitReq = some r → decodeUnit r = .ok i → step s = exec i s') ∧
    (∀ r e, s.unitReq = some r → decodeUnit r = .error e → step s = unmatchedUnit r s') ∧
    ∀ (p : Bytes) (a : EngineArgs),
      (s.unitReq = some ⟨.mpeg, p, a⟩ → step s = exec (.mpegHdr p) s') ∧
      (s.unitReq = some ⟨.adts, p, a⟩ → step s = exec (.adtsHdr p) s') ∧
      (s.unitReq = some ⟨.flac, p, a⟩ → step s = exec (.flacHdr p) s') ∧
      (s.unitReq = some ⟨.oggPage, p, a⟩ → step s = exec (.oggPage p) s') ∧
      (s.unitReq = some ⟨.vorbis, p, a⟩ →
        (p = [] ∨ ((byteAt p 0).getLsbD 0 = true ∧ ¬ Pattern.vorbis 1 <+: p ∧ ¬ Pattern.vorbis 3 <+: p
          ∧ ¬ Pattern.vorbis 5 <+: p)) →
        step s = consumed (warn .badPacket 0 (.length p.length) s')) ∧
      (s.unitReq = some ⟨.oggFlac, p, a⟩ → ¬ Pattern.oggFlac <+: p →
        let frameStart : Prop := 2 ≤ p.length ∧ byteAt p 0 = 0xFF ∧ (byteAt p 1 = 0xF8 ∨ byteAt p 1 = 0xF9)
        (¬ frameStart → step s = consumed s') ∧
        (frameStart → s.idHeader = none → step s = consumed (warn .badPacket 0 (.length p.length) s')) ∧
        (frameStart → s.idHeader ≠ none →
          (∀ h t, decodeFlac p s.streamInfo s' = (.parsed h, t) →
            step s = .next { t with result := .packet (.frame (.flac h)) }) ∧
          (∀ d t, decodeFlac p s.streamInfo s' = (d, t) → (∀ h, d ≠ .parsed h) →
            step s = consumed (warn .badPacket 0 (.length p.length) t)))) ∧
      (s.unitReq = some ⟨.skeleton, p, a⟩ → s.codec = .unset →
        step s = .next { s' with result := .packet .ignored })

/-- A reserved opcode or a nonzero zero-field is E_BAD_CMD and writes no field of the spec's state: R60, R75,
R234. A command word is rejected by the decoder exactly when R60 makes it illegal; with such a word at
the head of the channel, step takes its four bytes off and responds ERR(E_BAD_CMD), every other field
unchanged. The byte order of the word is the model's (log entry 1), as is what follows it (log entry 15). -/
def Obligations.IllegalWordIsBadCommand : Prop :=
    (∀ w : Word32, (∃ e, decodeCommandWord w = .illegal e) ↔ illegalWord w) ∧
    ∀ (s : State) (w : Word32) (tail : Bytes), s.unitReq = none → s.chan = wordBytes w ++ tail →
      illegalWord w → step s = .next { s with chan := tail, resp := some (.err .badCmd) }

/-- Decoding the encoding of a well-formed instruction gives the instruction, for every row: R56, R57, R58,
R62, R65, R70, R71, R213, R221. For every instruction the encodings admit, decoding its encoding gives it
back; for a host command this holds with any bytes following it on the channel. The channel's byte order
and the unit ports are the model's (log entries 1, 3). -/
def Obligations.EncodeThenDecode : Prop :=
    ∀ i : Instr, i.wellFormed = true →
    decodeEncoded (encode i) = some i ∧
    ∀ b tail, encode i = .channel b → decodeChannel (b ++ tail) = .command i tail

/-- What decodes is well-formed and stood there as its own encoding: R56, R57, R58, R60, R71, R72. If the
channel decodes to a command, the command is well-formed and the channel is its encoding followed by the
rest; if a unit request decodes to an instruction, it is well-formed and its encoding has the request's
port and bytes. No bit of an accepted encoding is ignored (log entries 1, 3). -/
def Obligations.DecodeThenEncode : Prop :=
    (∀ b i rest, decodeChannel b = .command i rest →
      i.wellFormed = true ∧ ∃ e, encode i = .channel e ∧ b = e ++ rest) ∧
    (∀ r i, decodeUnit r = .ok i →
      i.wellFormed = true ∧ ∃ q, encode i = .unit q ∧ q.port = r.port ∧ q.bytes = r.bytes)

/-- Words written out from the spec's encodings decode to their instructions: R56, R62, R65, R71, R214, R222.
A word of each host command, and on the unit ports, which are the model's (log entry 3), the leading
bytes of each header decoder, an Opus TOC packet, the Vorbis setup and the Ogg FLAC signatures and an
engine select code, written out from R56, R62, R65, R71, R214 and R222, decode to the instruction they
stand for. -/
def Obligations.WrittenWordsDecode : Prop :=
    decodeCommandWord 0x1000001A#32 = .whole (.config 2 true true) ∧
    decodeCommandWord 0x20000004#32 = .pushOf 4 ∧
    decodeCommandWord 0x30000000#32 = .whole .pull ∧
    decodeCommandWord 0x40000000#32 = .whole .flush ∧
    decodeCommandWord 0x50000000#32 = .whole .getcodec ∧
    decodeCommandWord 0x6000000C#32 = .whole (.rdreg 12) ∧
    decodeUnit ⟨.mpeg, [0xFF, 0xFB, 0x14, 0xC0], default⟩ = .ok (.mpegHdr [0xFF, 0xFB, 0x14, 0xC0]) ∧
    decodeUnit ⟨.adts, [0xFF, 0xF1], default⟩ = .ok (.adtsHdr [0xFF, 0xF1]) ∧
    decodeUnit ⟨.flac, [0xFF, 0xF8], default⟩ = .ok (.flacHdr [0xFF, 0xF8]) ∧
    decodeUnit ⟨.oggPage, [0x4F, 0x67, 0x67, 0x53], default⟩ = .ok (.oggPage [0x4F, 0x67, 0x67, 0x53]) ∧
    decodeUnit ⟨.opus, [0xFC, 0, 0], default⟩ = .ok (.opusToc [0xFC, 0, 0]) ∧
    decodeUnit ⟨.vorbis, [5, 0x76, 0x6F, 0x72, 0x62, 0x69, 0x73], default⟩
      = .ok (.vorbisSetup [5, 0x76, 0x6F, 0x72, 0x62, 0x69, 0x73]) ∧
    decodeUnit ⟨.oggFlac, [0x7F, 0x46, 0x4C, 0x41, 0x43], default⟩
      = .ok (.oggflacId [0x7F, 0x46, 0x4C, 0x41, 0x43]) ∧
    decodeUnit ⟨.engine, [0x22], default⟩ = .ok .cacheEnable

/-- CONFIG resets every field, then writes the configuration; SEL 4 to 7 is E_UNSUPPORTED after the reset:
R16, R29, R41, R61, R76, R235. CONFIG with SEL 0 to 3 answers the reset state with configured 1, the
configuration of its operands, codec MPEG, AAC, FLAC or NONE, and CODEC queued for SEL 0 to 2, response
OK; with SEL 4 to 7 it answers the reset state with response ERR(E_UNSUPPORTED). The host's side and the
parameters are kept (log entries 2, 3, 4). -/
def Obligations.ConfigBuildsTheMachine : Prop :=
    ∀ (s : State) (sel : BitVec 3) (log crc : Bool),
    let codec := [Codec.mpeg, .aac, .flac, .unset].getD sel.toNat .unset
    (sel.toNat < 4 → exec (.config sel log crc) s = .next { State.reset with
        configured := true, codecSel := sel.setWidth 2, logEn := log, crc32En := crc, codec := codec,
        outQ := if sel.toNat = 3 then [] else [.codec codec],
        chan := s.chan, unitReq := s.unitReq, result := s.result, par := s.par, resp := some .ok }) ∧
    (4 ≤ sel.toNat → exec (.config sel log crc) s = .next { State.reset with
        chan := s.chan, unitReq := s.unitReq, result := s.result, par := s.par,
        resp := some (.err .unsupported) })

/-- PUSH appends as many bytes as fit and says how many; unconfigured or flushing it fails and changes
nothing: R75, R77, R234, R236. Configured and not flushing, PUSH of d appends the first k = min(len d,
BUF_CAP - len buf) bytes, adds k to totalIn and responds ACCEPTED(k); unconfigured it responds
ERR(E_NOT_CONFIGURED), configured and flushing ERR(E_FLUSHING), with no other change. -/
def Obligations.PushAppendsWhatFits : Prop :=
    ∀ (s : State) (d : Bytes),
    let k := min d.length (s.par.bufCap - s.buf.length)
    (s.configured = true → s.flushing = false →
      exec (.push d) s = .next { s with
        buf := s.buf ++ d.take k, totalIn := s.totalIn + BitVec.ofNat 64 k,
        resp := some (.accepted k) }) ∧
    (s.configured = false → exec (.push d) s = .next { s with resp := some (.err .notConfigured) }) ∧
    (s.configured = true → s.flushing = true →
      exec (.push d) s = .next { s with resp := some (.err .flushing) })

/-- PULL returns the queue's head, NEED, END, or goes on after a committed micro-step: R75, R78, R141, R254.
PULL unconfigured responds E_NOT_CONFIGURED. Configured: with a queued event it takes the head off and
responds with it; with an empty queue it responds NEED(n) and changes nothing else when the micro-step
suspends with n, responds END on the flush completion's state, and after a committed micro-step does what
PULL does in the committed state. After NEED(n), PULL again gives the same state. The loop bound of the
model (log entry 8) is never seen. -/
def Obligations.PullFollowsItsLoop : Prop :=
    ∀ s : State,
    (s.configured = false → exec .pull s = .next { s with resp := some (.err .notConfigured) }) ∧
    (s.configured = true →
      (∀ e rest, s.outQ = e :: rest →
        exec .pull s = .next { s with outQ := rest, resp := some (.event e) }) ∧
      (s.outQ = [] →
        (∀ n, microStep s = .suspend n → exec .pull s = .next { s with resp := some (.need n) }) ∧
        (∀ t, microStep s = .flushed t → exec .pull s = .next { t with resp := some .finished }) ∧
        (∀ t, microStep s = .committed t → exec .pull s = exec .pull t)) ∧
      (∀ t n, exec .pull s = .next t → t.resp = some (.need n) → exec .pull t = .next t))

/-- PULL of a configured machine always ends, with an event, NEED of at least one byte, or END: R78, R142,
R237, R240. For every configured state PULL answers a next state whose response is EVENT, NEED(n) with n
at least 1, or END: no stream content makes it fail or run on. -/
def Obligations.PullAlwaysAnswers : Prop :=
    ∀ s : State, s.configured = true →
    ∃ t r, exec .pull s = .next t ∧ t.resp = some r ∧ isPullResponse r = true

/-- FLUSH sets flushing and does nothing else, or fails unconfigured; GETCODEC reads the codec: R24, R59,
R79, R80, R234. Configured, FLUSH sets flushing and responds OK, every other field unchanged;
unconfigured it responds ERR(E_NOT_CONFIGURED), every other field unchanged. In every state, configured
or not, GETCODEC responds CODEC(codec), every other field unchanged. -/
def Obligations.FlushAndGetcodec : Prop :=
    ∀ s : State,
    (s.configured = true → exec .flush s = .next { s with flushing := true, resp := some .ok }) ∧
    (s.configured = false → exec .flush s = .next { s with resp := some (.err .notConfigured) }) ∧
    exec .getcodec s = .next { s with resp := some (.codec s.codec) }

/-- The flush completion resets the stream state, keeps the configuration, and PULL returns END: R161. With
flushing set, the buffer and the queue empty, PULL of a configured machine answers the reset state with
configured, codecSel, logEn and crc32En kept, the codec kept but for codecSel 3, where it is NONE, the
queue empty, and the response END: no event is queued and no warning raised. -/
def Obligations.FlushCompletionResets : Prop :=
    ∀ s : State, s.configured = true → s.flushing = true → s.buf = [] → s.outQ = [] →
    exec .pull s = .next { State.reset with
      configured := s.configured, codecSel := s.codecSel, logEn := s.logEn, crc32En := s.crc32En,
      codec := if s.codecSel = 3 then .unset else s.codec,
      chan := s.chan, unitReq := s.unitReq, result := s.result, par := s.par,
      resp := some .finished }

/-- RDREG responds with the value the register map gives, or E_BAD_REG above 12, and changes nothing: R16,
R38, R81, R234. RDREG of register r responds REG(v), every other field unchanged: CTRL holds codecSel in
[2:0], logEn in [3], crc32En in [4] and zeros above; registers 2 to 12 hold pos, totalIn, len(buf),
frameNo, totalBytesOut, totalSamples, curRate, lastSeq, pagesSeen, len(pending) and len(outQ), zero-
extended; 13 to 255 respond ERR(E_BAD_REG). STATUS is a statement of its own. -/
def Obligations.RdregReadsTheMap : Prop :=
    ∀ s : State,
    (∃ v : Word64, exec (.rdreg 0) s = .next { s with resp := some (.reg v) }
      ∧ v.extractLsb' 0 3 = s.codecSel.setWidth 3 ∧ v.getLsbD 3 = s.logEn ∧ v.getLsbD 4 = s.crc32En
      ∧ v.extractLsb' 5 59 = 0) ∧
    (∀ (k : Nat) (v : Word64),
      [s.pos, s.totalIn, BitVec.ofNat 64 s.buf.length, s.frameNo, s.totalBytesOut, s.totalSamples,
        BitVec.ofNat 64 s.curRate, s.lastSeq.setWidth 64, BitVec.ofNat 64 s.pagesSeen,
        BitVec.ofNat 64 s.pending.length, BitVec.ofNat 64 s.outQ.length][k]? = some v →
      exec (.rdreg (BitVec.ofNat 8 (k + 2))) s = .next { s with resp := some (.reg v) }) ∧
    (∀ reg : Byte, 13 ≤ reg.toNat →
      exec (.rdreg reg) s = .next { s with resp := some (.err .badReg) })

/-- The STATUS register's bits are those of R39: R39. RDREG 1 responds REG(v), every other field unchanged,
with v[0] configured, v[1] mode = SYNCED, v[2] flushing, v[3] cacheEn, v[4] headerSent, v[7:5] the
codec's number (NONE 0, MPEG 1, AAC 2, FLAC 3, OPUS 4, VORBIS 5), v[8] idHeader is not none, v[9] pending
is non-empty, and v[63:10] zero. -/
def Obligations.StatusBitsShowTheState : Prop :=
    ∀ s : State, ∃ v : Word64, exec (.rdreg 1) s = .next { s with resp := some (.reg v) }
    ∧ v.getLsbD 0 = s.configured ∧ (v.getLsbD 1 = true ↔ s.mode = .synced) ∧ v.getLsbD 2 = s.flushing
    ∧ v.getLsbD 3 = s.cacheEn ∧ v.getLsbD 4 = s.headerSent
    ∧ [Codec.unset, .mpeg, .aac, .flac, .opus, .vorbis][(v.extractLsb' 5 3).toNat]? = some s.codec
    ∧ v.getLsbD 8 = s.idHeader.isSome ∧ (v.getLsbD 9 = true ↔ s.pending ≠ [])
    ∧ v.extractLsb' 10 54 = 0

/-- A host command that responds with an error other than E_UNSUPPORTED changes nothing else: R234, R235,
R236, R242. If a host command answers a next state whose response is ERR(c), c not E_UNSUPPORTED, then
that state is the old one with the response; E_NOT_CONFIGURED is answered only unconfigured, E_FLUSHING
only while flushing, E_UNSUPPORTED only by CONFIG. -/
def Obligations.ErrorResponsesChangeNothing : Prop :=
    ∀ (i : Instr) (s t : State) (c : ErrorCode), (∃ b, encode i = .channel b) → exec i s = .next t →
    t.resp = some (.err c) →
    (c ≠ .unsupported → t = { s with resp := some (.err c) }) ∧
    (c = .notConfigured → s.configured = false) ∧
    (c = .flushing → s.configured = true ∧ s.flushing = true) ∧
    (c = .unsupported → ∃ sel log crc, i = .config sel log crc ∧ 4 ≤ sel.toNat)

/-- CRC8 is the bitwise CRC with polynomial 0x07, and a sequence with its CRC appended checks to zero: R95.
CRC8 of b returns the 8-bit register of R95's loop and changes nothing else; CRC8 of the empty sequence
is 0; CRC8(s ++ [CRC8(s)]) is 0 for every s; R95's three example values hold. -/
def Obligations.Crc8EngineAndSelfCheck : Prop :=
    (∀ (b : Bytes) (s : State), exec (.crc8 b) s = .next { s with result := .crc8 (
      b.foldl (fun (c : BitVec 8) (x : Byte) =>
        Nat.repeat (fun c => if c.getLsbD 7 then (c <<< 1) ^^^ 7#8 else c <<< 1) 8 (c ^^^ x)) 0) }) ∧
    crc8 [] = 0 ∧ (∀ b : Bytes, crc8 (b ++ [crc8 b]) = 0) ∧
    crc8 [0x31, 0x32, 0x33, 0x34, 0x35, 0x36, 0x37, 0x38, 0x39] = 0xF4 ∧ crc8 [0xFF] = 0xF3 ∧
    crc8 [0xFF, 0xF8, 0xC9, 0x18, 0x00] = 0xC2

/-- The FLAC footer test passes exactly when the big-endian last two bytes are the CRC-16 of the rest, that
is when CRC16(F) = 0: R97. A byte sequence F passes the footer test exactly when it has at least two
bytes and CRC16 of all but the last two equals those two read big-endian; for F of at least two bytes
that is exactly CRC16(F) = 0. -/
def Obligations.FooterTestIsZeroCrc16 : Prop :=
    (∀ F : Bytes, footerMatches F = true ↔
      2 ≤ F.length ∧ (crc16 (F.take (F.length - 2))).toNat = be16 F (F.length - 2)) ∧
    ∀ F : Bytes, 2 ≤ F.length → (footerMatches F = true ↔ crc16 F = 0)

/-- The CRC engines answer the bitwise CRCs of R95, R96 and R99, which table-driven engines answer too, and
write nothing: R94, R95, R96, R98, R99. For every byte sequence and every state CRC16 returns the 16-bit
register of R96's loop (polynomial 0x8005) and, with the default CRC32_VARIANT, CRC32 the 32-bit register
of R99's loop (0xEDB88320), and nothing else changes. CRC8 (whose loop is Crc8EngineAndSelfCheck's),
CRC16 and CRC32 return what a table-driven implementation returns, its entry of i being the engine on
[i]. With another variant CRC32 returns that variant's value, of which nothing is assumed (log entry 6).
The check values of R96 and R99 hold. -/
def Obligations.CrcEnginesEqualTheirTables : Prop :=
    (∀ (b : Bytes) (s : State),
      exec (.crc16 b) s = .next { s with result := .crc16 (
        b.foldl (fun (c : BitVec 16) (x : Byte) =>
          Nat.repeat (fun c => if c.getLsbD 15 then (c <<< 1) ^^^ 0x8005#16 else c <<< 1) 8
            (c ^^^ (x.setWidth 16 <<< 8))) 0) } ∧
      (s.par.crc32Variant = .isoHdlc → exec (.crc32 b) s = .next { s with result := .crc32 (
        b.foldl (fun (c : BitVec 32) (x : Byte) =>
          Nat.repeat (fun c => if c.getLsbD 0 then (c >>> 1) ^^^ 0xEDB88320#32 else c >>> 1) 8
            (c ^^^ x.setWidth 32)) 0xFFFFFFFF ^^^ 0xFFFFFFFF) }) ∧
      (∀ k, s.par.crc32Variant = .other k →
        exec (.crc32 b) s = .next { s with result := .crc32 (Config.otherCrc32 k b) }) ∧
      exec (.crc8 b) s = .next { s with result := .crc8 (tableCrc8 b) } ∧
      exec (.crc16 b) s = .next { s with result := .crc16 (tableCrc16 b) } ∧
      (s.par.crc32Variant = .isoHdlc →
        exec (.crc32 b) s = .next { s with result := .crc32 (tableCrc32 b) })) ∧
    crc16 [] = 0 ∧ crc16 [1] = 0x8005 ∧ crc16 [2] = 0x800F ∧ crc16 [0xFF] = 0x0202 ∧
    crc16 [0x31, 0x32, 0x33, 0x34, 0x35, 0x36, 0x37, 0x38, 0x39] = 0xFEE8 ∧
    crc32IsoHdlc [] = 0 ∧ crc32IsoHdlc [0] = 0xD202EF8D ∧
    crc32IsoHdlc [0x31, 0x32, 0x33, 0x34, 0x35, 0x36, 0x37, 0x38, 0x39] = 0xCBF43926

/-- APPEND adds its bytes at the tail of buf and to totalIn, and changes nothing else: R87. For operands R87
admits, APPEND of d gives buf ++ d and totalIn + len(d) modulo 2^64, every other field of the spec
unchanged; with d empty, nothing changes but the unit's result. -/
def Obligations.AppendAddsAtTheTail : Prop :=
    ∀ (d : Bytes) (s : State), s.buf.length + d.length ≤ s.par.bufCap →
    exec (.append d) s = .next { s with
      buf := s.buf ++ d, totalIn := s.totalIn + BitVec.ofNat 64 d.length, result := .completed } ∧
    (d = [] → exec (.append d) s = .next { s with result := .completed })

/-- REQUIRE answers Satisfied, Short or the shortfall and writes nothing; ADVANCE discards bytes at the head:
R88, R89. REQUIRE(n, off) is satisfied when n = 0 or len(buf) is at least off + n (n = 0: log entry 21),
else Short while flushing, else suspends with the shortfall; it writes nothing. ADVANCE(n) for 1 to
len(buf) gives buf[n:] and pos + n modulo 2^64, every other field of the spec unchanged. -/
def Obligations.RequireAndAdvance : Prop :=
    ∀ (n off : Nat) (s : State),
    (n = 0 ∨ off + n ≤ s.buf.length → exec (.require n off) s = .next { s with result := .satisfied }) ∧
    (1 ≤ n → s.buf.length < off + n → s.flushing = true →
      exec (.require n off) s = .next { s with result := .short }) ∧
    (1 ≤ n → s.buf.length < off + n → s.flushing = false →
      exec (.require n off) s = .next { s with result := .suspended (off + n - s.buf.length) }) ∧
    (1 ≤ n → n ≤ s.buf.length → exec (.advance n) s = .next { s with
      buf := s.buf.drop n, pos := s.pos + BitVec.ofNat 64 n, result := .completed })

/-- APPEND past BUF_CAP, ADVANCE past the end of buf and a reserved engine select stop by name: R71, R87,
R89. The model's own stops, no rule of the spec: APPEND whose bytes would pass BUF_CAP and ADVANCE past
the end of buf, which R87 and R89 exclude as operands, fault (log entry 7); an engine request with a
select code R71 does not list is refused (log entry 3). -/
def Obligations.OperandsOutsideTheDomainStop : Prop :=
    (∀ (d : Bytes) (s : State), s.par.bufCap < s.buf.length + d.length →
      exec (.append d) s = .fault .appendOverflow) ∧
    (∀ (n : Nat) (s : State), s.buf.length < n → exec (.advance n) s = .fault .advancePastEnd) ∧
    (∀ (sel : Byte) (a : EngineArgs) (s : State), sel.toNat ∉ engineSelects →
      s.unitReq = some ⟨.engine, [sel], a⟩ → step s = .refused .reservedEngineSelect)

/-- buf[i] stands at stream offset pos + i; APPEND and ADVANCE change no byte still held, and an offset
advanced past is gone: R42, R43, R90. For a buffer of at most 2^64 bytes: after a satisfied REQUIRE(n,
off) the byte at stream offset pos + off + i, i < n, is buf[off + i]; APPEND leaves the byte at every
held offset; ADVANCE(k) leaves the byte at every held offset from pos + k on, and no offset from pos up
to pos + k reads as a byte. Offsets are taken modulo 2^64, which past the wrap is the model's choice (log
entry 22). -/
def Obligations.StreamBytesAreStable : Prop :=
    ∀ s : State, s.buf.length ≤ 2 ^ 64 →
    (∀ n off i t, exec (.require n off) s = .next t → t.result = .satisfied → i < n →
      streamByte s (s.pos + BitVec.ofNat 64 (off + i)) = s.buf[off + i]? ∧ (s.buf[off + i]?).isSome) ∧
    (∀ d t a, exec (.append d) s = .next t → (streamByte s a).isSome → streamByte t a = streamByte s a) ∧
    (∀ k t a, exec (.advance k) s = .next t →
      (k ≤ (a - s.pos).toNat → streamByte t a = streamByte s a) ∧
      ((a - s.pos).toNat < k → streamByte t a = none))

/-- CACHE_LOOKUP, CACHE_ENABLE and CACHE_RESET: R166, R167, R168. CACHE_LOOKUP of a key held while the cache
is enabled returns its records and sets lastKey; else it returns none and writes nothing. CACHE_ENABLE
sets cacheEn alone. CACHE_RESET clears cacheEn, cacheMap and lastKey alone. -/
def Obligations.CacheOperations : Prop :=
    ∀ (s : State) (key : Bytes),
    (∀ v, s.cacheEn = true → cacheFind s.cacheMap key = some v →
      exec (.cacheLookup key) s = .next { s with lastKey := some key, result := .lookup (some v) }) ∧
    (s.cacheEn = false ∨ cacheFind s.cacheMap key = none →
      exec (.cacheLookup key) s = .next { s with result := .lookup none }) ∧
    exec .cacheEnable s = .next { s with cacheEn := true, result := .completed } ∧
    exec .cacheReset s = .next { s with
      cacheEn := false, cacheMap := [], lastKey := none, result := .completed }

/-- CACHE_STORE adds a new key while there is room, never replaces one, and leaves every other key: R25,
R169, R170. Disabled, CACHE_STORE writes nothing. Enabled, it sets lastKey and writes cacheMap alone
besides; a key already held keeps its records; a new key is stored when the map holds fewer than
CACHE_ENTRIES entries and not otherwise; every other key reads as before, and the map keeps its canonical
form (log entry 9). -/
def Obligations.CacheStoreThenLookup : Prop :=
    ∀ (s : State) (key : Bytes) (h : Header) (i : Identity),
    (s.cacheEn = false → exec (.cacheStore key h i) s = .next { s with result := .completed }) ∧
    (s.cacheEn = true → cacheSorted s.cacheMap = true → ∃ m,
      exec (.cacheStore key h i) s
        = .next { s with lastKey := some key, cacheMap := m, result := .completed } ∧
      cacheSorted m = true ∧
      (∀ k, k ≠ key → cacheFind m k = cacheFind s.cacheMap k) ∧
      ((cacheFind s.cacheMap key).isSome → m = s.cacheMap) ∧
      (cacheFind s.cacheMap key = none → s.cacheMap.length < s.par.cacheEntries →
        cacheFind m key = some (h, i) ∧ m.length = s.cacheMap.length + 1) ∧
      (cacheFind s.cacheMap key = none → s.par.cacheEntries ≤ s.cacheMap.length → m = s.cacheMap))

/-- A header decoder answers a result in every state and writes lastKey alone, the page decoder nothing:
R134, R166, R188. For all bytes and every state, cache enabled or not, MPEG_HDR, ADTS_HDR and FLAC_HDR
answer a next state that differs from the old one in the unit's result and at most in lastKey; OGG_PAGE
in the unit's result alone. -/
def Obligations.HeaderRowsWriteLastKeyAlone : Prop :=
    ∀ (b : Bytes) (s : State),
    (∃ r k, exec (.mpegHdr b) s = .next { s with lastKey := k, result := .mpeg r }) ∧
    (∃ r k, exec (.adtsHdr b) s = .next { s with lastKey := k, result := .adts r }) ∧
    (∃ r k, exec (.flacHdr b) s = .next { s with lastKey := k, result := .flac r }) ∧
    (∃ r, exec (.oggPage b) s = .next { s with result := .page r })

/-- MPEG_HDR: Need(4), Invalid on the reserved codes, else a record that holds every header bit and the
derived fields: R66, R100, R103, R104, R105, R107, R108, R109, R256. With the cache disabled: fewer than
4 bytes give Need(4); a header with a code R66 makes Invalid gives Invalid; every other gives Parsed of a
record whose fields put together give the four bytes back, with bitrate and sample rate those of R103's
and R104's tables, padding, channels and samples those of R105 and R107, frameLength the floor of R108's
exact formula, between 24 and 2,881, and no bit depth. (Enabled cache: HeaderRowsWriteLastKeyAlone and
CachedDecodeIsDecode.) -/
def Obligations.MpegHeaderDecodes : Prop :=
    ∀ (b : Bytes) (s : State), s.cacheEn = false →
    (b.length < 4 → exec (.mpegHdr b) s = .next { s with result := .mpeg (.need 4) }) ∧
    (4 ≤ b.length → mpegReserved b = true →
      exec (.mpegHdr b) s = .next { s with result := .mpeg .invalid }) ∧
    (4 ≤ b.length → mpegReserved b = false → ∃ h : MpegHeader,
      exec (.mpegHdr b) s = .next { s with result := .mpeg (.parsed h) } ∧
      mpegHeaderBytes h = b.take 4 ∧ h.headerLength = 4 ∧
      (bitrateRows.getD h.bitrateIndex.toNat []).getD (bitrateColumnNumber h.version h.layer) 0 = h.bitrate ∧
      (sampleRateRows.getD h.sampleRateIndex.toNat []).getD (sampleRateColumnNumber h.version) 0
        = h.sampleRate ∧
      h.paddingBytes = h.padding.toNat * (if h.layer = .layer1 then 4 else 1) ∧
      h.channels = (if h.channelMode = .singleChannel then 1 else 2) ∧
      h.samples = (if h.layer = .layer1 then 384 else if h.layer = .layer3 ∧ h.version ≠ .mpeg1 then 576
        else 1152) ∧
      (h.frameLength : Int)
        = ⌊(125 * h.bitrate * h.samples : Rat) / (h.sampleRate : Rat) + (h.paddingBytes : Rat)⌋ ∧
      24 ≤ h.frameLength ∧ h.frameLength ≤ 2881 ∧ h.bitDepth = none)

/-- ADTS_HDR: Need(7), Invalid on the reserved codes and a short length, Need(9), else a record that holds
every header bit: R66, R111, R112, R113, R115, R116, R117, R118, R119, R120. With the cache disabled:
fewer than 7 bytes give Need(7); a header with a code R66 makes Invalid, or a frame length below its
header length, gives Invalid; one with a CRC of which fewer than 9 bytes are there gives Need(9); every
other gives Parsed of a record whose fields put together give the seven bytes back, with headerLength,
crc, sample rate, channels, samples and audioSpecificConfig those of R112 to R119, and no bitrate or bit
depth. -/
def Obligations.AdtsHeaderDecodes : Prop :=
    ∀ (b : Bytes) (s : State), s.cacheEn = false →
    (b.length < 7 → exec (.adtsHdr b) s = .next { s with result := .adts (.need 7) }) ∧
    (7 ≤ b.length → adtsReserved b = true →
      exec (.adtsHdr b) s = .next { s with result := .adts .invalid }) ∧
    (7 ≤ b.length → b.length < 9 → adtsReserved b = false → bit (byteAt b 1) 0 = false →
      exec (.adtsHdr b) s = .next { s with result := .adts (.need 9) }) ∧
    (7 ≤ b.length → adtsReserved b = false → (bit (byteAt b 1) 0 = true ∨ 9 ≤ b.length) →
      ∃ h : AdtsHeader, exec (.adtsHdr b) s = .next { s with result := .adts (.parsed h) } ∧
      adtsHeaderBytes h = b.take 7 ∧ h.layer = 0 ∧
      h.headerLength = (if h.protectionAbsent then 7 else 9) ∧
      h.crc = (if h.protectionAbsent then none else some (BitVec.ofNat 16 (be16 b 7))) ∧
      [96000, 88200, 64000, 48000, 44100, 32000, 24000, 22050, 16000, 12000, 11025, 8000,
        7350][h.sampleRateIndex.toNat]? = some h.sampleRate ∧
      h.channels = [0, 1, 2, 3, 4, 5, 6, 8].getD h.channelConfig.toNat 0 ∧
      h.samples = 1024 * (h.rawDataBlocks + 1) ∧
      h.audioSpecificConfig.length = 2 ∧
      bigEndian h.audioSpecificConfig
        = (h.profile.toNat + 1) * 2 ^ 11 + h.sampleRateIndex.toNat * 2 ^ 7 + h.channelConfig.toNat * 2 ^ 3 ∧
      h.headerLength ≤ h.frameLength ∧ h.frameLength < 2 ^ 13 ∧ h.bufferFullness < 2 ^ 11 ∧
      h.rawDataBlocks < 4 ∧ h.bitrate = none ∧ h.bitDepth = none)

/-- FLAC_HDR: the three Needs, Invalid on reserved codes, coded number, rate 0 or CRC-8, else the header's
record: R66, R121, R123, R124, R125, R126, R127, R128, R129, R130, R131, R132. With the cache disabled
and the STREAMINFO the mode gives (log entry 18): fewer than 4 bytes give Need(4); reserved codes of
bytes 0 to 3 give Invalid; with those passed, 4 bytes give Need(5), a malformed first coded byte Invalid,
fewer bytes than the header length Need(header length), a bad continuation byte, sample rate 0 or CRC-8
Invalid; every other header gives Parsed of a record whose bytes 0 to 3 put together give those bytes
back, with header length 6 to 16, block size, sample rate and coded number those of R123, R124 and R128
to R130, channels and channel mode those of R125's table, bit depth that of R126's table (STREAMINFO's
for code 000), and the CRC-8 the header's last byte. -/
def Obligations.FlacHeaderDecodes : Prop :=
    ∀ (b : Bytes) (s : State), s.cacheEn = false →
    let info := flacReference s
    (b.length < 4 → exec (.flacHdr b) s = .next { s with result := .flac (.need 4) }) ∧
    (4 ≤ b.length → flacReserved b info.isSome = true →
      exec (.flacHdr b) s = .next { s with result := .flac .invalid }) ∧
    (b.length = 4 → flacReserved b info.isSome = false →
      exec (.flacHdr b) s = .next { s with result := .flac (.need 5) }) ∧
    (5 ≤ b.length → flacReserved b info.isSome = false →
      (flacCountOf (byteAt b 4) = none →
        exec (.flacHdr b) s = .next { s with result := .flac .invalid }) ∧
      ∀ n, flacCountOf (byteAt b 4) = some n →
        6 ≤ flacLengthOf b n ∧ flacLengthOf b n ≤ 16 ∧
        (b.length < flacLengthOf b n →
          exec (.flacHdr b) s = .next { s with result := .flac (.need (flacLengthOf b n)) }) ∧
        (flacLengthOf b n ≤ b.length → flacTrailerBad b n info = true →
          exec (.flacHdr b) s = .next { s with result := .flac .invalid }) ∧
        (flacLengthOf b n ≤ b.length → flacTrailerBad b n info = false → ∃ h : FlacHeader,
          exec (.flacHdr b) s = .next { s with result := .flac (.parsed h) } ∧
          h.headerLength = flacLengthOf b n ∧ flacFixedBytes h = b.take 4 ∧
          h.blockSize = flacSizeOf b n ∧ h.samples = h.blockSize ∧
          1 ≤ h.blockSize ∧ h.blockSize ≤ 65536 ∧
          h.sampleRate = flacRateOf b n info ∧ 1 ≤ h.sampleRate ∧
          flacChannelTable[h.chCode.toNat]? = some (h.channels, h.channelMode) ∧
          [info.map (·.bitsPerSample), some 8, some 12, none, some 16, some 20, some 24,
            none][h.ssCode.toNat]? = some (some h.bitDepth) ∧
          (h.frameNumber, h.sampleNumber) = (if h.blockingStrategy
            then (none, some (flacNumberOf b n)) else (some (flacNumberOf b n), none)) ∧
          flacNumberOf b n < 2 ^ 36 ∧
          h.crc8 = byteAt b (h.headerLength - 1) ∧ crc8 (b.take h.headerLength) = 0 ∧
          h.bitrate = none))

/-- OGG_PAGE: the two Needs, Invalid, else a record that holds every header byte, within R190's bounds: R190.
In every state: fewer than 27 bytes give Need(27); a wrong capture pattern, version or reserved flag
gives Invalid; with n segments and fewer than 27 + n bytes Need(27 + n); else Parsed of a record whose
fields put together give the header bytes back, with the flags bits 0 to 2 of headerType, segmentTable
the n lacing values, headerLength 27 + n, bodyLength their sum, pageLength the sum of the two, 27 ≤
headerLength ≤ 282 and pageLength ≤ 65,307. -/
def Obligations.OggPageHeaderDecodes : Prop :=
    ∀ (b : Bytes) (s : State),
    let n := (byteAt b 26).toNat
    (b.length < 27 → exec (.oggPage b) s = .next { s with result := .page (.need 27) }) ∧
    (27 ≤ b.length → oggReserved b = true →
      exec (.oggPage b) s = .next { s with result := .page .invalid }) ∧
    (27 ≤ b.length → oggReserved b = false → b.length < 27 + n →
      exec (.oggPage b) s = .next { s with result := .page (.need (27 + n)) }) ∧
    (oggReserved b = false → 27 + n ≤ b.length → ∃ h : OggPageHeader,
      exec (.oggPage b) s = .next { s with result := .page (.parsed h) } ∧
      oggHeaderBytes h = b.take (27 + n) ∧ h.version = (byteAt b 4).toNat ∧ h.headerType = byteAt b 5 ∧
      h.continued = h.headerType.getLsbD 0 ∧ h.firstPage = h.headerType.getLsbD 1 ∧
      h.lastPage = h.headerType.getLsbD 2 ∧
      -(2 ^ 63) ≤ h.granulePosition ∧ h.granulePosition < 2 ^ 63 ∧
      h.pageSegments = n ∧ h.segmentTable = (b.drop 27).take n ∧ h.segmentTable.length = n ∧
      h.headerLength = 27 + n ∧ h.bodyLength = (h.segmentTable.map BitVec.toNat).sum ∧
      h.pageLength = h.headerLength + h.bodyLength ∧
      27 ≤ h.headerLength ∧ h.headerLength ≤ 282 ∧ h.pageLength ≤ 65307)

/-- Invalid and Parsed are final: more bytes behind never change them: R135. For each of the four header
decoders, in every state: if it returns Invalid or Parsed(h) on some bytes, it does the same, to the same
next state, on those bytes with any bytes behind them. -/
def Obligations.DecodersAreMonotone : Prop :=
    ∀ (b d : Bytes) (s t : State),
    (exec (.mpegHdr b) s = .next t → (∀ k, t.result ≠ .mpeg (.need k)) → exec (.mpegHdr (b ++ d)) s = .next t) ∧
    (exec (.adtsHdr b) s = .next t → (∀ k, t.result ≠ .adts (.need k)) → exec (.adtsHdr (b ++ d)) s = .next t) ∧
    (exec (.flacHdr b) s = .next t → (∀ k, t.result ≠ .flac (.need k)) → exec (.flacHdr (b ++ d)) s = .next t) ∧
    (exec (.oggPage b) s = .next t → (∀ k, t.result ≠ .page (.need k)) → exec (.oggPage (b ++ d)) s = .next t)

/-- A sound cache never changes what a decoder returns: R55, R133, R166, R170, R179, R214. In every state
whose cache entries hold what decoding their keys gives, MPEG_HDR, ADTS_HDR, FLAC_HDR and OPUS_TOC return
what they return with the cache disabled and empty (log entries 10, 11). -/
def Obligations.CachedDecodeIsDecode : Prop :=
    ∀ (b : Bytes) (s t u : State), CacheSound s →
    (exec (.mpegHdr b) s = .next t → exec (.mpegHdr b) (withoutCache s) = .next u → t.result = u.result) ∧
    (exec (.adtsHdr b) s = .next t → exec (.adtsHdr b) (withoutCache s) = .next u → t.result = u.result) ∧
    (exec (.flacHdr b) s = .next t → exec (.flacHdr b) (withoutCache s) = .next u → t.result = u.result) ∧
    (exec (.opusToc b) s = .next t → exec (.opusToc b) (withoutCache s) = .next u → t.result = u.result)

/-- OPUS_ID stores the identification header and its bytes, W6 when it is Invalid, and nothing once one is
held: R209, R210, R211, R212. With idHeader held, OPUS_ID consumes its packet and writes nothing. With
none: a packet too short, of another version, without channels, or failing the mapping checks is consumed
with W6 alone; every other sets idHeader to the record of R212 and idRaw to the packet. -/
def Obligations.OpusIdStoresTheHeader : Prop :=
    ∀ (p : Bytes) (s : State),
    let c := (byteAt p 9).toNat
    let family := (byteAt p 18).toNat
    let n := if family = 0 then 1 else (byteAt p 19).toNat
    let m := if family = 0 then c - 1 else (byteAt p 20).toNat
    let mapping := if family = 0 then [0, 1].take c else (p.drop 21).take c
    let bad : Prop := p.length < 19 ∨ byteAt p 8 ≠ 1 ∨ c = 0 ∨ (family = 0 ∧ 2 < c) ∨
      (family ≠ 0 ∧ (p.length < 21 + c ∨ (family = 1 ∧ 8 < c) ∨ n = 0 ∨ n < m ∨ 255 < n + m
        ∨ ∃ x ∈ mapping, n + m ≤ x.toNat ∧ x ≠ 255))
    (s.idHeader ≠ none → exec (.opusId p) s = .next { s with result := .packet .consumed }) ∧
    (s.idHeader = none → bad → exec (.opusId p) s
      = .next { warn .badIdHeader 0 (.length p.length) s with result := .packet .consumed }) ∧
    (s.idHeader = none → ¬bad → exec (.opusId p) s = .next { s with
      idRaw := some p, result := .packet .consumed,
      idHeader := some (.opus {
        version := 1, channels := c, preSkip := le16 p 10, inputSampleRate := le32 p 12,
        outputGain := sext 16 (le16 p 16), mappingFamily := family, streamCount := n,
        coupledStreamCount := m, channelMapping := mapping }) })

/-- OPUS_TOC gives a frame of 120 to 5,760 samples at 48 kHz, or W5: R209, R214, R215, R216, R217. With an
Opus identification header held, a sound cache and a nonempty packet: code 3 without a count byte, with
count 0 or above 5,760 samples is consumed with W5 alone; every other packet gives a frame whose config,
stereo and code put together give the TOC byte back, with R215's mode, bandwidth and frame size, the
count of its code, samples the product, between 120 and 5,760, the rate 48000 and the identification
header's channels. Without such a header, or with an empty packet, W5. At most lastKey is written besides
(log entries 10, 11). -/
def Obligations.OpusAudioDecodes : Prop :=
    ∀ (p : Bytes) (s : State),
    ((∀ i, s.idHeader ≠ some (.opus i)) ∨ p = [] → exec (.opusToc p) s
      = .next { warn .badPacket 0 (.length p.length) s with result := .packet .consumed }) ∧
    (∀ i, s.idHeader = some (.opus i) → CacheSound s → p ≠ [] →
      (opusCountBad p = true → ∃ k, exec (.opusToc p) s = .next
        { warn .badPacket 0 (.length p.length) s with lastKey := k, result := .packet .consumed }) ∧
      (opusCountBad p = false → ∃ k h, exec (.opusToc p) s
          = .next { s with lastKey := k, result := .packet (.frame (.opus h)) } ∧
        h.id = i ∧
        h.config.toNat * 8 + h.stereo.toNat * 4 + h.code.toNat = (byteAt p 0).toNat ∧
        h.frameSize = opusFrameSizes.getD h.config.toNat 0 ∧
        h.mode = (if h.config.toNat < 12 then .silk else if h.config.toNat < 16 then .hybrid else .celt) ∧
        h.bandwidth = opusBandwidths.getD (h.config.toNat / 2) .fullband ∧
        h.count = (if h.code = 0 then 1 else if h.code = 3 then field (byteAt p 1) 5 0 else 2) ∧
        h.samples = h.frameSize * h.count ∧ 120 ≤ h.samples ∧ h.samples ≤ 5760 ∧
        h.sampleRate = 48000 ∧ h.channels = i.channels ∧ h.bitDepth = none ∧ h.bitrate = none ∧
        h.vbr = (if h.code = 3 then some ((byteAt p 1).getLsbD 7) else none) ∧
        h.padding = (if h.code = 3 then some ((byteAt p 1).getLsbD 6) else none)))

/-- VORBIS_ID stores the identification header, its bytes and the initial sample-count state, or raises W6:
R209, R223, R229. With idHeader held, VORBIS_ID consumes its packet and writes nothing. With none: fewer
than 29 bytes, a version other than 0, no channels, rate 0, or exponents outside 6 to 13 or out of order
are consumed with W6 alone; every other packet sets idHeader, idRaw and vorbisState (log entries 5, 19). -/
def Obligations.VorbisIdStoresTheHeader : Prop :=
    ∀ (p : Bytes) (s : State),
    let e0 := (byteAt p 28).toNat % 16
    let e1 := (byteAt p 28).toNat / 16
    let bad : Prop := p.length < 29 ∨ le32 p 7 ≠ 0 ∨ byteAt p 11 = 0 ∨ le32 p 12 = 0
      ∨ e0 < 6 ∨ 13 < e0 ∨ e1 < 6 ∨ 13 < e1 ∨ e1 < e0
    (s.idHeader ≠ none → exec (.vorbisId p) s = .next { s with result := .packet .consumed }) ∧
    (s.idHeader = none → bad → exec (.vorbisId p) s
      = .next { warn .badIdHeader 0 (.length p.length) s with result := .packet .consumed }) ∧
    (s.idHeader = none → ¬bad → exec (.vorbisId p) s = .next { s with
      idRaw := some p, vorbisState := some Config.vorbisInitialState, result := .packet .consumed,
      idHeader := some (.vorbis {
        channels := (byteAt p 11).toNat, sampleRate := le32 p 12,
        bitrateMaximum := sext 32 (le32 p 16), bitrateNominal := sext 32 (le32 p 20),
        bitrateMinimum := sext 32 (le32 p 24), blocksize0 := 2 ^ e0, blocksize1 := 2 ^ e1 }) })

/-- VORBIS_SETUP stores the first setup packet; VORBIS_AUDIO gives a frame with the sample count the open
parameter returns: R209, R224, R225, R229. VORBIS_SETUP stores its packet when none is stored and else
writes nothing. VORBIS_AUDIO with a Vorbis identification header held gives a frame with that header's
fields and the sample count VORBIS_PACKET_SAMPLES returns, whatever that function is (log entry 5), and
stores its next state; with no identification header, or with another codec's held (log entry 10), it
raises W5 alone. -/
def Obligations.VorbisSetupAndAudio : Prop :=
    ∀ (p : Bytes) (s : State),
    (s.vorbisSetup = none → exec (.vorbisSetup p) s
      = .next { s with vorbisSetup := some p, result := .packet .consumed }) ∧
    (s.vorbisSetup ≠ none → exec (.vorbisSetup p) s = .next { s with result := .packet .consumed }) ∧
    (∀ i v, s.idHeader = some (.vorbis i) → s.vorbisState = some v →
      let r := Config.vorbisPacketSamples v i s.vorbisSetup p
      exec (.vorbisAudio p) s = .next { s with
        vorbisState := some r.2,
        result := .packet (.frame (.vorbis {
          id := i, sampleRate := i.sampleRate, channels := i.channels, samples := r.1,
          bitDepth := none, bitrate := i.bitrateNominal })) }) ∧
    ((∀ i, s.idHeader ≠ some (.vorbis i)) → exec (.vorbisAudio p) s
      = .next { warn .badPacket 0 (.length p.length) s with result := .packet .consumed })

/-- OGGFLAC_ID stores STREAMINFO, the identification header and its bytes, or raises W6: R209, R226, R227.
With idHeader held, OGGFLAC_ID consumes its packet and writes nothing; with none, fewer than 51 bytes are
consumed with W6 alone; else streamInfo, idHeader and idRaw are set, and the STREAMINFO record's fields
put together give bytes 17 to 50 back, its block sizes below 2^16, frame sizes below 2^24, sample rate
below 2^20, channels 1 to 8, bits per sample 1 to 32 and total samples below 2^36. -/
def Obligations.OggFlacIdStoresStreamInfo : Prop :=
    ∀ (p : Bytes) (s : State),
    (s.idHeader ≠ none → exec (.oggflacId p) s = .next { s with result := .packet .consumed }) ∧
    (s.idHeader = none → p.length < 51 → exec (.oggflacId p) s
      = .next { warn .badIdHeader 0 (.length p.length) s with result := .packet .consumed }) ∧
    (s.idHeader = none → 51 ≤ p.length → ∃ i : StreamInfo, exec (.oggflacId p) s = .next { s with
        streamInfo := some i, idRaw := some p, result := .packet .consumed,
        idHeader := some (.flac {
          majorVersion := (byteAt p 5).toNat, minorVersion := (byteAt p 6).toNat,
          headerPackets := be16 p 7, streamInfo := i }) } ∧
      streamInfoBytes i = (p.drop 17).take 34 ∧ i.minBlockSize < 2 ^ 16 ∧ i.maxBlockSize < 2 ^ 16 ∧
      i.minFrameSize < 2 ^ 24 ∧ i.maxFrameSize < 2 ^ 24 ∧ i.sampleRate < 2 ^ 20 ∧ 1 ≤ i.channels ∧ i.channels ≤ 8 ∧
      1 ≤ i.bitsPerSample ∧ i.bitsPerSample ≤ 32 ∧ i.totalSamples < 2 ^ 36 ∧ i.md5.length = 16)

/-- Comment packets are consumed without effect; the Skeleton rows ignore their page while no codec is set:
R65, R201, R202, R213, R219, R221, R225, R228. In every state OPUS_TAGS and VORBIS_COMMENT consume their
packet and write nothing of the spec's state. While no codec is set SKELETON_FISHEAD, SKELETON_FISBONE
and SKELETON_INDEX answer that the page is ignored and write nothing; with codec FLAC a Skeleton packet
is consumed without effect, as R228 treats a packet that is no frame (log entry 17). -/
def Obligations.CommentAndSkeletonPackets : Prop :=
    ∀ (p : Bytes) (s : State),
    exec (.opusTags p) s = .next { s with result := .packet .consumed } ∧
    exec (.vorbisComment p) s = .next { s with result := .packet .consumed } ∧
    (s.codec = .unset →
      exec (.skeletonFishead p) s = .next { s with result := .packet .ignored } ∧
      exec (.skeletonFisbone p) s = .next { s with result := .packet .ignored } ∧
      exec (.skeletonIndex p) s = .next { s with result := .packet .ignored }) ∧
    (s.codec = .flac →
      (Pattern.fishead <+: p → exec (.skeletonFishead p) s = .next { s with result := .packet .consumed }) ∧
      (Pattern.fisbone <+: p → exec (.skeletonFisbone p) s = .next { s with result := .packet .consumed }) ∧
      (Pattern.index <+: p → exec (.skeletonIndex p) s = .next { s with result := .packet .consumed }))

/-- A packet row answers a next state and writes only the Ogg codec registers, lastKey and at most one W5 or
W6: R208, R209, R238. For every packet row and every state exec answers a next state that differs from
the old one at most in idHeader, idRaw, streamInfo, vorbisSetup, vorbisState, lastKey, the unit's result,
and outQ, which gains nothing or, with logEn set, one W5 or W6 at the cursor with the packet's length.
The accumulator, the sync state, the statistics and the cache map are unchanged. -/
def Obligations.PacketRowsFrame : Prop :=
    ∀ (i : Instr) (p : Bytes) (s : State),
    i ∈ ([.opusId p, .opusTags p, .opusToc p, .vorbisId p, .vorbisComment p, .vorbisSetup p, .vorbisAudio p,
      .oggflacId p, .skeletonFishead p, .skeletonFisbone p, .skeletonIndex p] : List Instr) →
    ∃ a r f v n k q x, exec i s = .next { s with
        idHeader := a, idRaw := r, streamInfo := f, vorbisSetup := v, vorbisState := n, lastKey := k,
        outQ := s.outQ ++ q, result := .packet x } ∧
      (q = [] ∨ (s.logEn = true ∧ ∃ w, (w = .badPacket ∨ w = .badIdHeader) ∧
        q = [.warn w s.pos (.length p.length)]))

/-- The segment table splits a page's body into its packets, every byte into exactly one: R195, R196, R197.
Lacing any complete packets and splitting their bytes by the table gives the packets back, each complete,
those of a length divisible by 255 included. For any table and a body of its length, the packets joined
are the body, there are at most as many as lacing values, only the last can be open, and it is open
exactly when the last lacing value is 255. -/
def Obligations.LacingSplitsTheBody : Prop :=
    (∀ ps : List Bytes, splitPackets (laceAll ps) ps.flatten [] = ps.map fun p => (p, false)) ∧
    ∀ table body : Bytes, body.length = (table.map BitVec.toNat).sum →
      ((splitPackets table body []).map (·.1)).flatten = body ∧
      (splitPackets table body []).length ≤ table.length ∧
      (∀ pk ∈ (splitPackets table body []).dropLast, pk.2 = false) ∧
      ((∃ q, (splitPackets table body []).getLast? = some (q, true)) ↔ table.getLast? = some 255)

/-- A continued packet is the pending bytes in front of the page's first packet; an open last packet is held
back: R198, R199, R200. A page without packets leaves everything. Else the pending bytes stand in front
of the first packet; if the last packet is complete all are dispatched and pending is empty; if it is
open all but it are dispatched and it becomes pending, or, longer than PEND_CAP, it is dropped with W7.
Nothing but pending and that warning is written. -/
def Obligations.ContinuationReassembles : Prop :=
    ∀ s : State, continuation [] s = ([], s) ∧
    ∀ (p0 : Bytes) (k0 : Bool) (rest : List PagePacket),
      let full := (s.pending ++ p0) :: rest.map (·.1)
      let q := full.getLastD []
      ((((p0, k0) :: rest).getLast?.map (·.2)) = some false →
        continuation ((p0, k0) :: rest) s = (full, { s with pending := [] })) ∧
      ((((p0, k0) :: rest).getLast?.map (·.2)) = some true →
        (q.length ≤ s.par.pendCap →
          continuation ((p0, k0) :: rest) s = (full.dropLast, { s with pending := q })) ∧
        (s.par.pendCap < q.length → continuation ((p0, k0) :: rest) s
          = (full.dropLast, warn .pendingOverflow 0 (.length q.length) { s with pending := [] })))

/-- Every processed page is checked against the last sequence number, from the third page on, and W4 is its
only mark: R194. Processing any page, ignored or not, sets lastSeq to its sequence number and pagesSeen
to min(2, pagesSeen + 1), and queues W4 with (last, new), first among the page's events, exactly when
logEn is set, two pages were seen and the number is not lastSeq + 1 modulo 2^32, whatever the serial
numbers are; no other event of the page is a W4. -/
def Obligations.PageSequenceIsChecked : Prop :=
    ∀ (h : OggPageHeader) (c : Bool) (s : State),
    (processPage h c s).lastSeq = h.pageSequenceNumber ∧
    (processPage h c s).pagesSeen = min 2 (s.pagesSeen + 1) ∧
    ∃ q, (processPage h c s).outQ = s.outQ
        ++ (if s.logEn = true ∧ s.pagesSeen = 2 ∧ h.pageSequenceNumber ≠ s.lastSeq + 1
            then [.warn .oggSeqGap s.pos (.sequence s.lastSeq h.pageSequenceNumber)] else []) ++ q ∧
      ∀ e ∈ q, ∀ o i, e ≠ .warn .oggSeqGap o i

/-- While no codec is set, a page whose first packet shows no signature is consumed without frame, page or a
warning of its own: R65, R193, R194, R200, R201, R202. With no codec set, if the page gives no complete
packet or its first begins with none of the three signatures, processing it consumes its bytes, records
its sequence number, keeps the continuation's pending bytes and leaves every other field; all it queues
is the W4 of the sequence check and the W7 of a dropped continuation, each only with logEn set and where
R194 and R200 raise it. -/
def Obligations.UnknownPagesAreIgnored : Prop :=
    ∀ (h : OggPageHeader) (c : Bool) (s : State), s.codec = .unset →
    let cont := continuation (splitPackets h.segmentTable
      (slice (s.buf.take h.pageLength) h.headerLength h.pageLength) []) (seqCheck h s)
    (∀ p rest, cont.1 = p :: rest →
      ¬ Pattern.opusHead <+: p ∧ ¬ Pattern.oggFlac <+: p ∧ ¬ Pattern.vorbis 1 <+: p) →
    ∃ w7, processPage h c s = { s with
        buf := s.buf.drop h.pageLength, pos := s.pos + BitVec.ofNat 64 h.pageLength,
        lastSeq := h.pageSequenceNumber, pagesSeen := min 2 (s.pagesSeen + 1), pending := cont.2.pending,
        outQ := s.outQ
          ++ (if s.logEn = true ∧ s.pagesSeen = 2 ∧ h.pageSequenceNumber ≠ s.lastSeq + 1
              then [.warn .oggSeqGap s.pos (.sequence s.lastSeq h.pageSequenceNumber)] else []) ++ w7 } ∧
      (w7 = [] ∨ (s.logEn = true ∧ cont.2.pending = [] ∧
        ∃ n, s.par.pendCap < n ∧ w7 = [.warn .pendingOverflow s.pos (.length n)]))

/-- A page's packets become codec frames with their callbacks, numbered in order with the totals before them;
the page follows them: R36, R98, R172, R175, R176, R180, R185, R201, R203, R204, R206, R208. A packet
goes to the parser of the codec register, which answers what its unit answers (the port is log entry
3's). One answered with a frame is recorded and its callbacks queued as R172 to R176 say, in the state
the parser left, without offset, confirmed as the page; any other gives no frame; then the rest follow.
So dispatching gives at most one frame each; frame k has frameNumber frameNo + k, the totals of the
frames before it, totalDuration at its own rate; the counters go on by the frames, their bytes and their
samples. Processing a page with a codec set dispatches the continuation's packets and queues last PAGE
with this header, the page's bytes, the cursor as offset, the dispatched frames, the sums of their
samples and durations and the totals after them, then advances by the page; with none set and a first
packet that begins with a signature it first sets that codec and queues CODEC, then does the same. (Rate
0: log entry 16.) -/
def Obligations.DispatchedFramesAreCounted : Prop :=
    (∀ (p : Bytes) (a : EngineArgs) (s : State) (port : Port), s.unitReq = none →
      (s.codec = .opus ∧ port = .opus) ∨ (s.codec = .vorbis ∧ port = .vorbis)
        ∨ (s.codec = .flac ∧ port = .oggFlac) →
      step { s with unitReq := some ⟨port, p, a⟩ }
        = .next { (codecPacket p s).2 with result := .packet (codecPacket p s).1 }) ∧
    (∀ (p : Bytes) (rest : List Bytes) (c : Bool) (s : State),
      dispatchPackets [] c s = ([], s) ∧
      (∀ h v, codecPacket p s = (.frame h, v) →
        dispatchPackets (p :: rest) c s
          = (assembledFrame h p none c false v :: (dispatchPackets rest c (afterFrame h p v)).1,
             (dispatchPackets rest c (afterFrame h p v)).2)) ∧
      (∀ r v, codecPacket p s = (r, v) → (∀ h, r ≠ .frame h) →
        dispatchPackets (p :: rest) c s = dispatchPackets rest c v)) ∧
    (∀ (pk : List Bytes) (c : Bool) (s : State),
      let fs := (dispatchPackets pk c s).1
      let t := (dispatchPackets pk c s).2
      fs.length ≤ pk.length ∧
      t.frameNo = s.frameNo + BitVec.ofNat 64 fs.length ∧
      t.totalBytesOut = s.totalBytesOut + BitVec.ofNat 64 (frameBytes fs) ∧
      t.totalSamples = s.totalSamples + BitVec.ofNat 64 (frameSamples fs) ∧
      ∀ k f, fs[k]? = some f →
        f.frameNumber = s.frameNo + BitVec.ofNat 64 k ∧
        f.totalBytesOut = s.totalBytesOut + BitVec.ofNat 64 (frameBytes (fs.take k)) ∧
        f.totalSamples = s.totalSamples + BitVec.ofNat 64 (frameSamples (fs.take k)) ∧
        f.totalDuration = durationOf f.totalSamples.toNat (samplesAndRate f.header).2 ∧
        f.data ∈ pk ∧ f.offset = none ∧ f.confirmed = c ∧ f.truncated = false) ∧
    ∀ (h : OggPageHeader) (c : Bool) (s : State),
      let cont := continuation (splitPackets h.segmentTable
        (slice (s.buf.take h.pageLength) h.headerLength h.pageLength) []) (seqCheck h s)
      let emitted (u : State) : State :=
        let fs := (dispatchPackets cont.1 c u).1
        let t := (dispatchPackets cont.1 c u).2
        { t with
          buf := s.buf.drop h.pageLength, pos := s.pos + BitVec.ofNat 64 h.pageLength,
          outQ := t.outQ ++ [.page {
            header := h, data := s.buf.take h.pageLength, offset := s.pos, codecFrames := fs,
            samples := frameSamples fs, duration := (fs.map fun f => f.duration).sum,
            totalBytesOut := t.totalBytesOut, totalSamples := t.totalSamples,
            totalDuration := if t.curRate = 0 then 0 else durationOf t.totalSamples.toNat t.curRate,
            truncated := false, confirmed := c }] }
      (s.codec ≠ .unset → processPage h c s = emitted cont.2) ∧
      (s.codec = .unset → ∀ p rest d, cont.1 = p :: rest →
        ((Pattern.opusHead <+: p ∧ d = .opus) ∨ (Pattern.oggFlac <+: p ∧ d = .flac)
          ∨ (Pattern.vorbis 1 <+: p ∧ d = .vorbis)) →
        processPage h c s
          = emitted { cont.2 with codec := d, outQ := cont.2.outQ ++ [.codec d] })

/-- A frame follows its CODEC_HEADER and CODEC_UPDATE, carries the totals before it, advances the counters
and is stored in the cache: R98, R169, R170, R171, R172, R173, R174, R176, R177, R180, R181. Emitting a
frame queues CODEC_HEADER if the cache is enabled and none was sent, then CODEC_UPDATE if the cache is
enabled and the identity, R171's fields of the header, differs from the last announced, then FRAME: the
header, its samples, the duration samples × 1000 / sampleRate as a rational (rate 0: log entry 16), the
cursor's offset, the totals before it, and the CRC-32 when crc32En is set. The counters advance by it.
With the cache enabled the map is the one CACHE_STORE of the header and that identity under the key of
R170 leaves, and lastKey is that key; with it disabled nothing is announced or stored. Every other field
is unchanged. -/
def Obligations.EmittedFrameAndItsCallbacks : Prop :=
    ∀ (h : Header) (d : Bytes) (c t : Bool) (s : State),
    emitFrame h d c t s = { afterFrame h d s with
      outQ := s.outQ ++ callbacksOf h s ++ [.frame (assembledFrame h d (some s.pos) c t s)] } ∧
    (assembledFrame h d (some s.pos) c t s).duration
      = ((samplesAndRate h).1 : Rat) * 1000 / ((samplesAndRate h).2 : Rat) ∧
    (s.cacheEn = false → callbacksOf h s = [] ∧ afterFrame h d s = { s with
      frameNo := s.frameNo + 1, totalBytesOut := s.totalBytesOut + BitVec.ofNat 64 d.length,
      totalSamples := s.totalSamples + BitVec.ofNat 64 (samplesAndRate h).1, curRate := (samplesAndRate h).2 })

/-- After reset every field has the value R41 states: R41. The reset state has configured, codecSel, logEn,
crc32En, flushing, cacheEn and headerSent 0, mode SEEKING, codec NONE, the counters, pos, totalIn,
curRate, lastSeq and pagesSeen 0, and everything else of the spec's record empty or none. -/
def Obligations.ResetLeavesTheStatedValues : Prop :=
    let s := State.reset
    s.configured = false ∧ s.codecSel = 0 ∧ s.logEn = false ∧ s.crc32En = false ∧ s.buf = [] ∧ s.pos = 0 ∧
    s.totalIn = 0 ∧ s.mode = .seeking ∧ s.flushing = false ∧ s.cacheEn = false ∧ s.cacheMap = [] ∧
    s.lastKey = none ∧ s.lastAnnounced = none ∧ s.headerSent = false ∧ s.frameNo = 0 ∧
    s.totalBytesOut = 0 ∧ s.totalSamples = 0 ∧ s.curRate = 0 ∧ s.codec = .unset ∧ s.pending = [] ∧
    s.lastSeq = 0 ∧ s.pagesSeen = 0 ∧ s.idHeader = none ∧ s.idRaw = none ∧ s.streamInfo = none ∧
    s.vorbisSetup = none ∧ s.vorbisState = none ∧ s.outQ = []

/-- The state after reset meets both invariants: R20, R22, R25, R29, R41, R162. The reset state meets the
host invariant and its cache is sound. The parameters and the model's own fields have the values log
entries 4 and 14 name. -/
def Obligations.ResetMeetsTheInvariants : Prop :=
    HostInv State.reset ∧ CacheSound State.reset

/-- Every step keeps the host invariant: R20, R22, R25, R29, R30, R31, R32, R91, R162. If a state meets the
host invariant (no unit request pending, legal parameters, buf within BUF_CAP and pending within
PEND_CAP, totalIn = pos + len(buf), cacheEn exactly when SYNCED, an empty map while disabled, the map
canonical and within CACHE_ENTRIES, pagesSeen at most 2, codec and identification header consistent with
the configuration) and step answers next, the next state meets it. The step runs from a channel of any
bytes. Three clauses are the model's choices: that no unit request is pending (log entry 3), that the
parameters, held in the state, are legal (log entry 4), and that the map's list is in canonical key order
(log entry 9). -/
def Obligations.HostInvariantIsKept : Prop :=
    ∀ s t : State, HostInv s → step s = .next t → HostInv t

/-- Every step keeps the cache sound: each entry holds what decoding its key gives: R55, R133, R166, R169,
R170, R179. If a state meets the host invariant and every cache entry holds what decoding its key gives
(for Opus and Vorbis, under the identification header held), and step answers next, the same holds of the
next state (log entries 10, 11). -/
def Obligations.CacheSoundnessIsKept : Prop :=
    ∀ s t : State, HostInv s → CacheSound s → step s = .next t → CacheSound t

/-- A committed micro-step advances the cursor by 1 to len(buf) bytes: R142, R143, R21. With a sound cache, a
committed micro-step leaves the buffer without its first n bytes and pos + n, for some n from 1 to
len(buf). -/
def Obligations.CommittedStepConsumesBytes : Prop :=
    ∀ s t : State, CacheSound s → microStep s = .committed t →
    ∃ n, 1 ≤ n ∧ n ≤ s.buf.length ∧ t.buf = s.buf.drop n ∧ t.pos = s.pos + BitVec.ofNat 64 n

/-- Sync is lost only by a one-byte resync with its warning, which every rejected unit gives, and gained only
with the cache enabled: R144, R146, R149, R150, R151, R152, R154, R155, R156, R238. For a committed
micro-step: from SYNCED to SEEKING the cache is reset, one byte is consumed, headerSent and lastAnnounced
stay, and W2 at the cursor is queued when no header decoded, W3 when one did (then native FLAC), exactly
with logEn set; from SEEKING to SYNCED the cache is enabled; SYNCED to SYNCED keeps cacheEn; from SEEKING
to SEEKING outside a flush one byte is consumed, with no warning when no header decoded, else W1, or W3
for FLAC. Conversely, a header Invalid at the cursor, or short while flushing, commits that one-byte
step: W2 with cache reset from SYNCED, silent from SEEKING; an Invalid confirming header commits the
resync with W1; and a FLAC header with MAX_FLAC_FRAME + 2 bytes buffered, or flushing, and no candidate
end whose footer passes commits it with W3. -/
def Obligations.ModeChangesAreThoseOfTheTable : Prop :=
    ∀ s : State,
    let parsed : Prop :=
      if s.codecSel = 2 then ∃ h, (decodeFlac s.buf none s).1 = .parsed h else ∃ h, (decodeAt 0 s).1 = .parsed h
    let invalid : Prop :=
      if s.codecSel = 2 then (decodeFlac s.buf none s).1 = .invalid else (decodeAt 0 s).1 = .invalid
    let rejected : Prop := invalid ∨ (s.flushing = true ∧ s.buf ≠ [] ∧ ¬ parsed)
    let warned (w : Warning) : List Event := if s.logEn then [.warn w s.pos .absent] else []
    let resynced (w : Warning) : State := { s with
      mode := .seeking, cacheEn := false, cacheMap := [], lastKey := none,
      buf := s.buf.drop 1, pos := s.pos + 1, outQ := s.outQ ++ warned w }
    (∀ t, microStep s = .committed t →
      (s.mode = .synced → t.mode = .seeking →
        (¬ parsed → t = resynced .syncLost) ∧ (parsed → s.codecSel = 2 ∧ t = resynced .flacNoFooter)) ∧
      (s.mode = .seeking → t.mode = .synced → t.cacheEn = true) ∧
      (s.mode = .synced → t.mode = .synced → t.cacheEn = s.cacheEn) ∧
      (s.mode = .seeking → t.mode = .seeking → s.flushing = false →
        (¬ parsed → t.outQ = s.outQ ∧ t.buf = s.buf.drop 1) ∧
        (parsed → t = resynced (if s.codecSel = 2 then .flacNoFooter else .falsePositive)))) ∧
    (s.mode = .synced → rejected → microStep s = .committed (resynced .syncLost)) ∧
    (s.mode = .seeking → rejected → ∃ k, (s.cacheEn = false → k = s.lastKey) ∧
      microStep s = .committed { s with lastKey := k, buf := s.buf.drop 1, pos := s.pos + 1 }) ∧
    (s.codecSel ≠ 2 → s.mode = .seeking → ∀ h u, decodeAt 0 s = (.parsed h, u) →
      (decodeAt (unitLength h) u).1 = .invalid → microStep s = .committed (resynced .falsePositive)) ∧
    (s.codecSel = 2 → ∀ h, (decodeFlac s.buf none s).1 = .parsed h →
      (s.flushing = true ∨ 524288 + 2 ≤ s.buf.length) →
      (∀ p, h.headerLength + 2 ≤ p → p ≤ 524288 → p ≤ s.buf.length → footerMatches (s.buf.take p) = false) →
      microStep s = .committed (resynced .flacNoFooter))

/-- Outside a flush no unconfirmed or truncated frame or page is queued: R157, R160, R163. A committed micro-
step with flushing 0 and an empty queue before it queues no frame and no page, and no page holding a
codec frame, that is unconfirmed or truncated. -/
def Obligations.NothingTentativeOutsideFlush : Prop :=
    ∀ s t : State, s.flushing = false → s.outQ = [] → microStep s = .committed t →
    ∀ e ∈ t.outQ, isTentative e = false

/-- A unit is accepted while seeking exactly when a second header decodes right behind it, while synced on
its own, at flush anyway: R140, R144, R145, R146, R147, R148, R156, R157, R158, R160, R163, R205. For
MPEG, ADTS and Ogg pages, dec being the decoder row of codecSel. Outside a flush, from SEEKING and an
empty queue, a committed micro-step that queues anything but warnings had a header h decode at the cursor
and another at offset L = frameLen(h), is SYNCED and consumed exactly L buffered bytes. Conversely, in
SEEKING, if h decodes at the cursor and a header at L, the micro-step commits h accepted as confirmed in
the state with SYNCED and the cache enabled; in SYNCED, if h decodes and L bytes are buffered, it commits
h accepted as confirmed. At flush: in SEEKING, if h decodes and the header at L is short, it commits h
accepted unconfirmed when L bytes are buffered; with fewer than L buffered, in either mode, it commits
one truncated unit of the whole rest of the buffer, confirmed exactly in SYNCED: the frame, or with a
codec set the page, without codec frames and with the totals as they stand. Accepting emits the frame,
not truncated, and advances by L, or processes the page. The mode stays, or is SYNCED after a
confirmation. -/
def Obligations.SeekingUnitNeedsSecondHeader : Prop :=
    ∀ s : State, s.codecSel ≠ 2 →
    let L (h : UnitHeader) : Nat := match h with
      | .mpeg m => m.frameLength
      | .adts a => a.frameLength
      | .page p => p.pageLength
    let accepted (h : UnitHeader) (c : Bool) (u : State) : State := match h with
      | .mpeg m => advanceBy m.frameLength (emitFrame (.mpeg m) (u.buf.take m.frameLength) c false u)
      | .adts a => advanceBy a.frameLength (emitFrame (.adts a) (u.buf.take a.frameLength) c false u)
      | .page p => processPage p c u
    let truncated (h : UnitHeader) (c : Bool) (u : State) : State := match h with
      | .mpeg m => advanceBy u.buf.length (emitFrame (.mpeg m) u.buf c true u)
      | .adts a => advanceBy u.buf.length (emitFrame (.adts a) u.buf c true u)
      | .page p => { u with
          buf := [], pos := u.pos + BitVec.ofNat 64 u.buf.length,
          outQ := u.outQ ++ if u.codec = .unset then [] else [.page {
            header := p, data := u.buf, offset := u.pos, codecFrames := [], samples := 0, duration := 0,
            totalBytesOut := u.totalBytesOut, totalSamples := u.totalSamples,
            totalDuration := if u.curRate = 0 then 0 else durationOf u.totalSamples.toNat u.curRate,
            truncated := true, confirmed := c }] }
    (∀ off, (s.codecSel = 0 → ∃ r,
        exec (.mpegHdr (s.buf.drop off)) s = .next { (decodeAt off s).2 with result := .mpeg r } ∧
        (∀ h, (decodeAt off s).1 = .parsed h ↔ ∃ m, h = .mpeg m ∧ r = .parsed m) ∧
        (∀ k, (decodeAt off s).1 = .need k ↔ r = .need k)) ∧
      (s.codecSel = 1 → ∃ r,
        exec (.adtsHdr (s.buf.drop off)) s = .next { (decodeAt off s).2 with result := .adts r } ∧
        (∀ h, (decodeAt off s).1 = .parsed h ↔ ∃ m, h = .adts m ∧ r = .parsed m) ∧
        (∀ k, (decodeAt off s).1 = .need k ↔ r = .need k)) ∧
      (s.codecSel = 3 → ∃ r,
        exec (.oggPage (s.buf.drop off)) s = .next { (decodeAt off s).2 with result := .page r } ∧
        (∀ h, (decodeAt off s).1 = .parsed h ↔ ∃ m, h = .page m ∧ r = .parsed m) ∧
        (∀ k, (decodeAt off s).1 = .need k ↔ r = .need k))) ∧
    (∀ t, s.mode = .seeking → s.flushing = false → s.outQ = [] → microStep s = .committed t →
      (∃ e ∈ t.outQ, isWarning e = false) →
      ∃ h h2, (decodeAt 0 s).1 = .parsed h ∧ (decodeAt (L h) s).1 = .parsed h2 ∧
        t.mode = .synced ∧ L h ≤ s.buf.length ∧ t.buf = s.buf.drop (L h)) ∧
    ∀ h u, decodeAt 0 s = (.parsed h, u) →
      u = { s with lastKey := u.lastKey } ∧
      (s.mode = .seeking → ∀ h2 v, decodeAt (L h) u = (.parsed h2, v) →
        v = { s with lastKey := v.lastKey } ∧
        microStep s = .committed (accepted h true { v with mode := .synced, cacheEn := true }) ∧
        (accepted h true { v with mode := .synced, cacheEn := true }).mode = .synced) ∧
      (s.mode = .synced → L h ≤ s.buf.length →
        microStep s = .committed (accepted h true u) ∧ (accepted h true u).mode = .synced) ∧
      (s.flushing = true → s.mode = .seeking → L h ≤ s.buf.length →
        ∀ k v, decodeAt (L h) u = (.need k, v) →
        v = { s with lastKey := v.lastKey } ∧ microStep s = .committed (accepted h false v) ∧
        (accepted h false v).mode = .seeking) ∧
      (s.flushing = true → s.buf.length < L h →
        microStep s = .committed (truncated h (decide (s.mode = .synced)) u) ∧
        (truncated h (decide (s.mode = .synced)) u).mode = s.mode)

/-- A native FLAC frame is emitted only with a matching CRC-16, and is emitted when footer and next header
are there, or at flush the end: R97, R121, R149, R150, R151, R153, R156, R159. In native FLAC mode the
header decoder is the row FLAC_HDR without STREAMINFO. From an empty queue, every frame a committed
micro-step queues, flushing or not, has CRC16(data) = 0, which is the footer test, a length of 8 to
524,288 bytes, and is not truncated. Conversely, if a header decodes at the cursor and at a candidate end
p, behind which 16 bytes are buffered, the footer test passes and a next header decodes, the micro-step
commits, is SYNCED and has emitted a confirmed frame that ends at p or before. At flush, if a header
decodes at the cursor, the footer test passes on the whole buffer and on no candidate before its end, it
commits the whole buffer as one frame, confirmed exactly in SYNCED, and the mode stays. -/
def Obligations.FlacFramePassesItsFooter : Prop :=
    ∀ s : State, s.codecSel = 2 →
    (∀ off, exec (.flacHdr (s.buf.drop off)) s = .next
      { (decodeFlac (s.buf.drop off) none s).2 with result := .flac (decodeFlac (s.buf.drop off) none s).1 }) ∧
    (∀ t f, s.outQ = [] → microStep s = .committed t → .frame f ∈ t.outQ →
      crc16 f.data = 0 ∧ footerMatches f.data = true ∧ 8 ≤ f.data.length ∧ f.data.length ≤ 524288 ∧
      f.truncated = false) ∧
    ∀ h, (decodeFlac s.buf none s).1 = .parsed h →
      (∀ h2 p, h.headerLength + 2 ≤ p → p ≤ 524288 →
        p + 16 ≤ s.buf.length → footerMatches (s.buf.take p) = true →
        (decodeFlac (s.buf.drop p) none s).1 = .parsed h2 →
        byteAt s.buf p = 0xFF ∧ (byteAt s.buf (p + 1) = 0xF8 ∨ byteAt s.buf (p + 1) = 0xF9) →
        ∃ t f, microStep s = .committed t ∧ t.mode = .synced ∧ .frame f ∈ t.outQ ∧ f.header = .flac h ∧
          f.confirmed = true ∧ f.data.length ≤ p ∧ f.data = s.buf.take f.data.length ∧
          t.buf = s.buf.drop f.data.length) ∧
      (s.flushing = true → h.headerLength + 2 ≤ s.buf.length → s.buf.length ≤ 524288 →
        footerMatches s.buf = true →
        (∀ p, h.headerLength + 2 ≤ p → p < s.buf.length → footerMatches (s.buf.take p) = false) →
        microStep s = .committed (advanceBy s.buf.length
          (emitFrame (.flac h) s.buf (decide (s.mode = .synced)) false (decodeFlac s.buf none s).2)) ∧
        ((decodeFlac s.buf none s).2 = { s with lastKey := (decodeFlac s.buf none s).2.lastKey }))

/-- The data of a frame or page is exactly the bytes the micro-step consumes, at the offset of the first:
R35, R36, R92, R148, R172, R204, R205. From an empty queue, a frame or page queued by a committed micro-
step has as its data the head of the buffer, as its offset the cursor, and its length is what buffer and
cursor move by. -/
def Obligations.UnitDataIsTheConsumedBytes : Prop :=
    ∀ s t : State, s.outQ = [] → microStep s = .committed t →
    (∀ f, .frame f ∈ t.outQ → f.data = s.buf.take f.data.length ∧ f.offset = some s.pos ∧
      t.buf = s.buf.drop f.data.length ∧ t.pos = s.pos + BitVec.ofNat 64 f.data.length) ∧
    (∀ p, .page p ∈ t.outQ → p.data = s.buf.take p.data.length ∧ p.offset = s.pos ∧
      t.buf = s.buf.drop p.data.length ∧ t.pos = s.pos + BitVec.ofNat 64 p.data.length)

/-- logEn = 0 removes exactly the WARN events and nothing else: R18, R238, R239. For every state, a micro-
step of the state without logging (logEn clear, no WARN queued) has the outcome of the micro-step with
logging, without its WARN events: same suspension, same commitment, every other field and event the same. -/
def Obligations.LoggingOnlyAddsWarnings : Prop :=
    ∀ s : State, microStep (withoutLog s) = (microStep s).map withoutLog

/-- crc32En changes the crc32 field of frame records and nothing else: R19, R98, R99. For every state, a
micro-step of the state with crc32En clear and no CRC-32 in its queued records has the outcome of the
micro-step with them, without the CRC-32s. -/
def Obligations.Crc32OnlyFillsItsField : Prop :=
    ∀ s : State, microStep (withoutCrc s) = (microStep s).map withoutCrc

/-- A committed micro-step commits the same with more bytes behind; a suspended one asks for exactly as many
fewer: R85, R88, R135, R141. Outside a flush, if a micro-step commits, then with any bytes appended it
commits to the same state with those bytes appended; if it suspends with n, then with fewer than n bytes
appended it suspends with n less their number. -/
def Obligations.MoreInputNeverChangesACommitment : Prop :=
    ∀ (s : State) (d : Bytes), s.flushing = false →
    (∀ t, microStep s = .committed t → microStep (appendBytes d s) = .committed (appendBytes d t)) ∧
    (∀ n, microStep s = .suspend n → d.length < n →
      microStep (appendBytes d s) = .suspend (n - d.length))

/-- Pushing a stream in two chunks with a drain between gives the events and the state of pushing it whole:
R69, R85, R86. From a configured state that is not flushing and whose buffer has room for both chunks:
push a, drain to the events ea; push b, drain to the events eb; then pushing a ++ b in one PUSH and
draining gives the events ea ++ eb and the same state. -/
def Obligations.ChunkingDoesNotChangeTheEvents : Prop :=
    ∀ (s s1 t t1 u s2 : State) (a b : Bytes) (ea eb : List Event) (j k : Nat),
    s.configured = true → s.flushing = false →
    s.buf.length + a.length + b.length ≤ s.par.bufCap →
    exec (.push a) s = .next s1 → drain j s1 = some (ea, t) →
    exec (.push b) t = .next t1 → drain k t1 = some (eb, u) →
    exec (.push (a ++ b)) s = .next s2 → ∃ n, drain n s2 = some (ea ++ eb, u)

/-- A suspended micro-step holds fewer than 524,304 bytes and has room for what it asks for: R256. In a state
that meets the two invariants, when a micro-step suspends with n: n is at least 1, the buffer holds fewer
than 524,304 bytes, the buffer and the n bytes together are at most 2,881 + 4 bytes for MPEG, 8,191 + 9
for ADTS, 65,307 + 282 for Ogg and 524,304 for FLAC, and they fit in BUF_CAP. -/
def Obligations.SuspensionBufferBound : Prop :=
    ∀ (s : State) (n : Nat), HostInv s → CacheSound s → microStep s = .suspend n →
    1 ≤ n ∧ s.buf.length < 524304 ∧
    (s.codecSel = 0 → s.buf.length + n ≤ 2881 + 4) ∧
    (s.codecSel = 1 → s.buf.length + n ≤ 8191 + 9) ∧
    (s.codecSel = 2 → s.buf.length + n ≤ 524304) ∧
    (s.codecSel = 3 → s.buf.length + n ≤ 65307 + 282) ∧
    s.buf.length + n ≤ s.par.bufCap

/-- One micro-step queues at most 768 events: R33, R197. From an empty queue a committed micro-step leaves at
most 3 + 3 × 255 events queued. -/
def Obligations.QueueBoundPerMicroStep : Prop :=
    ∀ s t : State, s.outQ = [] → microStep s = .committed t → t.outQ.length ≤ 3 + 3 * 255

/-- After FLUSH, finitely many PULLs reach END, with flushing 0, buffer and queue empty, pos 0 and mode
SEEKING: R79, R142, R156, R161, R250. From a configured, flushing state that meets the two invariants,
repeated PULL returns finitely many events and then END; the state then is not flushing, with buffer and
queue empty, pos 0, mode SEEKING, and the configuration as it was. (FlushCompletionResets says what every
other field is at the completion.) -/
def Obligations.FlushAlwaysCompletes : Prop :=
    ∀ s : State, HostInv s → CacheSound s → s.configured = true → s.flushing = true →
    ∃ k es t, drain k s = some (es, t) ∧ t.resp = some .finished ∧ t.flushing = false ∧ t.buf = [] ∧
      t.outQ = [] ∧ t.pos = 0 ∧ t.mode = .seeking ∧ t.configured = true ∧ t.codecSel = s.codecSel ∧
      t.logEn = s.logEn ∧ t.crc32En = s.crc32En

end
end

