-- ==== Sys2Proof/Laws/State.lean ====
section
/-! SUPPORT. What each named update of the state leaves in every field: one lemma per field per update,
true by rfl, so that no later proof unfolds a record update. -/

namespace Sys2Proof.Machine

/-! ### appendBytes -/

@[simp] theorem appendBytes_configured (d : Bytes) (s : State) :
    (appendBytes d s).configured = s.configured := rfl

@[simp] theorem appendBytes_codecSel (d : Bytes) (s : State) :
    (appendBytes d s).codecSel = s.codecSel := rfl

@[simp] theorem appendBytes_logEn (d : Bytes) (s : State) :
    (appendBytes d s).logEn = s.logEn := rfl

@[simp] theorem appendBytes_crc32En (d : Bytes) (s : State) :
    (appendBytes d s).crc32En = s.crc32En := rfl

@[simp] theorem appendBytes_buf (d : Bytes) (s : State) :
    (appendBytes d s).buf = s.buf ++ d := rfl

@[simp] theorem appendBytes_pos (d : Bytes) (s : State) :
    (appendBytes d s).pos = s.pos := rfl

@[simp] theorem appendBytes_totalIn (d : Bytes) (s : State) :
    (appendBytes d s).totalIn = s.totalIn + BitVec.ofNat 64 d.length := rfl

@[simp] theorem appendBytes_mode (d : Bytes) (s : State) :
    (appendBytes d s).mode = s.mode := rfl

@[simp] theorem appendBytes_flushing (d : Bytes) (s : State) :
    (appendBytes d s).flushing = s.flushing := rfl

@[simp] theorem appendBytes_cacheEn (d : Bytes) (s : State) :
    (appendBytes d s).cacheEn = s.cacheEn := rfl

@[simp] theorem appendBytes_cacheMap (d : Bytes) (s : State) :
    (appendBytes d s).cacheMap = s.cacheMap := rfl

@[simp] theorem appendBytes_lastKey (d : Bytes) (s : State) :
    (appendBytes d s).lastKey = s.lastKey := rfl

@[simp] theorem appendBytes_lastAnnounced (d : Bytes) (s : State) :
    (appendBytes d s).lastAnnounced = s.lastAnnounced := rfl

@[simp] theorem appendBytes_headerSent (d : Bytes) (s : State) :
    (appendBytes d s).headerSent = s.headerSent := rfl

@[simp] theorem appendBytes_frameNo (d : Bytes) (s : State) :
    (appendBytes d s).frameNo = s.frameNo := rfl

@[simp] theorem appendBytes_totalBytesOut (d : Bytes) (s : State) :
    (appendBytes d s).totalBytesOut = s.totalBytesOut := rfl

@[simp] theorem appendBytes_totalSamples (d : Bytes) (s : State) :
    (appendBytes d s).totalSamples = s.totalSamples := rfl

@[simp] theorem appendBytes_curRate (d : Bytes) (s : State) :
    (appendBytes d s).curRate = s.curRate := rfl

@[simp] theorem appendBytes_codec (d : Bytes) (s : State) :
    (appendBytes d s).codec = s.codec := rfl

@[simp] theorem appendBytes_pending (d : Bytes) (s : State) :
    (appendBytes d s).pending = s.pending := rfl

@[simp] theorem appendBytes_lastSeq (d : Bytes) (s : State) :
    (appendBytes d s).lastSeq = s.lastSeq := rfl

@[simp] theorem appendBytes_pagesSeen (d : Bytes) (s : State) :
    (appendBytes d s).pagesSeen = s.pagesSeen := rfl

@[simp] theorem appendBytes_idHeader (d : Bytes) (s : State) :
    (appendBytes d s).idHeader = s.idHeader := rfl

@[simp] theorem appendBytes_idRaw (d : Bytes) (s : State) :
    (appendBytes d s).idRaw = s.idRaw := rfl

@[simp] theorem appendBytes_streamInfo (d : Bytes) (s : State) :
    (appendBytes d s).streamInfo = s.streamInfo := rfl

@[simp] theorem appendBytes_vorbisSetup (d : Bytes) (s : State) :
    (appendBytes d s).vorbisSetup = s.vorbisSetup := rfl

@[simp] theorem appendBytes_vorbisState (d : Bytes) (s : State) :
    (appendBytes d s).vorbisState = s.vorbisState := rfl

@[simp] theorem appendBytes_outQ (d : Bytes) (s : State) :
    (appendBytes d s).outQ = s.outQ := rfl

@[simp] theorem appendBytes_chan (d : Bytes) (s : State) :
    (appendBytes d s).chan = s.chan := rfl

@[simp] theorem appendBytes_resp (d : Bytes) (s : State) :
    (appendBytes d s).resp = s.resp := rfl

@[simp] theorem appendBytes_unitReq (d : Bytes) (s : State) :
    (appendBytes d s).unitReq = s.unitReq := rfl

@[simp] theorem appendBytes_result (d : Bytes) (s : State) :
    (appendBytes d s).result = s.result := rfl

@[simp] theorem appendBytes_par (d : Bytes) (s : State) :
    (appendBytes d s).par = s.par := rfl

/-! ### advanceBy -/

@[simp] theorem advanceBy_configured (n : Nat) (s : State) :
    (advanceBy n s).configured = s.configured := rfl

@[simp] theorem advanceBy_codecSel (n : Nat) (s : State) :
    (advanceBy n s).codecSel = s.codecSel := rfl

@[simp] theorem advanceBy_logEn (n : Nat) (s : State) :
    (advanceBy n s).logEn = s.logEn := rfl

@[simp] theorem advanceBy_crc32En (n : Nat) (s : State) :
    (advanceBy n s).crc32En = s.crc32En := rfl

@[simp] theorem advanceBy_buf (n : Nat) (s : State) :
    (advanceBy n s).buf = s.buf.drop n := rfl

@[simp] theorem advanceBy_pos (n : Nat) (s : State) :
    (advanceBy n s).pos = s.pos + BitVec.ofNat 64 n := rfl

@[simp] theorem advanceBy_totalIn (n : Nat) (s : State) :
    (advanceBy n s).totalIn = s.totalIn := rfl

@[simp] theorem advanceBy_mode (n : Nat) (s : State) :
    (advanceBy n s).mode = s.mode := rfl

@[simp] theorem advanceBy_flushing (n : Nat) (s : State) :
    (advanceBy n s).flushing = s.flushing := rfl

@[simp] theorem advanceBy_cacheEn (n : Nat) (s : State) :
    (advanceBy n s).cacheEn = s.cacheEn := rfl

@[simp] theorem advanceBy_cacheMap (n : Nat) (s : State) :
    (advanceBy n s).cacheMap = s.cacheMap := rfl

@[simp] theorem advanceBy_lastKey (n : Nat) (s : State) :
    (advanceBy n s).lastKey = s.lastKey := rfl

@[simp] theorem advanceBy_lastAnnounced (n : Nat) (s : State) :
    (advanceBy n s).lastAnnounced = s.lastAnnounced := rfl

@[simp] theorem advanceBy_headerSent (n : Nat) (s : State) :
    (advanceBy n s).headerSent = s.headerSent := rfl

@[simp] theorem advanceBy_frameNo (n : Nat) (s : State) :
    (advanceBy n s).frameNo = s.frameNo := rfl

@[simp] theorem advanceBy_totalBytesOut (n : Nat) (s : State) :
    (advanceBy n s).totalBytesOut = s.totalBytesOut := rfl

@[simp] theorem advanceBy_totalSamples (n : Nat) (s : State) :
    (advanceBy n s).totalSamples = s.totalSamples := rfl

@[simp] theorem advanceBy_curRate (n : Nat) (s : State) :
    (advanceBy n s).curRate = s.curRate := rfl

@[simp] theorem advanceBy_codec (n : Nat) (s : State) :
    (advanceBy n s).codec = s.codec := rfl

@[simp] theorem advanceBy_pending (n : Nat) (s : State) :
    (advanceBy n s).pending = s.pending := rfl

@[simp] theorem advanceBy_lastSeq (n : Nat) (s : State) :
    (advanceBy n s).lastSeq = s.lastSeq := rfl

@[simp] theorem advanceBy_pagesSeen (n : Nat) (s : State) :
    (advanceBy n s).pagesSeen = s.pagesSeen := rfl

@[simp] theorem advanceBy_idHeader (n : Nat) (s : State) :
    (advanceBy n s).idHeader = s.idHeader := rfl

@[simp] theorem advanceBy_idRaw (n : Nat) (s : State) :
    (advanceBy n s).idRaw = s.idRaw := rfl

@[simp] theorem advanceBy_streamInfo (n : Nat) (s : State) :
    (advanceBy n s).streamInfo = s.streamInfo := rfl

@[simp] theorem advanceBy_vorbisSetup (n : Nat) (s : State) :
    (advanceBy n s).vorbisSetup = s.vorbisSetup := rfl

@[simp] theorem advanceBy_vorbisState (n : Nat) (s : State) :
    (advanceBy n s).vorbisState = s.vorbisState := rfl

@[simp] theorem advanceBy_outQ (n : Nat) (s : State) :
    (advanceBy n s).outQ = s.outQ := rfl

@[simp] theorem advanceBy_chan (n : Nat) (s : State) :
    (advanceBy n s).chan = s.chan := rfl

@[simp] theorem advanceBy_resp (n : Nat) (s : State) :
    (advanceBy n s).resp = s.resp := rfl

@[simp] theorem advanceBy_unitReq (n : Nat) (s : State) :
    (advanceBy n s).unitReq = s.unitReq := rfl

@[simp] theorem advanceBy_result (n : Nat) (s : State) :
    (advanceBy n s).result = s.result := rfl

@[simp] theorem advanceBy_par (n : Nat) (s : State) :
    (advanceBy n s).par = s.par := rfl

/-! ### emit -/

@[simp] theorem emit_configured (e : Event) (s : State) :
    (emit e s).configured = s.configured := rfl

@[simp] theorem emit_codecSel (e : Event) (s : State) :
    (emit e s).codecSel = s.codecSel := rfl

@[simp] theorem emit_logEn (e : Event) (s : State) :
    (emit e s).logEn = s.logEn := rfl

@[simp] theorem emit_crc32En (e : Event) (s : State) :
    (emit e s).crc32En = s.crc32En := rfl

@[simp] theorem emit_buf (e : Event) (s : State) :
    (emit e s).buf = s.buf := rfl

@[simp] theorem emit_pos (e : Event) (s : State) :
    (emit e s).pos = s.pos := rfl

@[simp] theorem emit_totalIn (e : Event) (s : State) :
    (emit e s).totalIn = s.totalIn := rfl

@[simp] theorem emit_mode (e : Event) (s : State) :
    (emit e s).mode = s.mode := rfl

@[simp] theorem emit_flushing (e : Event) (s : State) :
    (emit e s).flushing = s.flushing := rfl

@[simp] theorem emit_cacheEn (e : Event) (s : State) :
    (emit e s).cacheEn = s.cacheEn := rfl

@[simp] theorem emit_cacheMap (e : Event) (s : State) :
    (emit e s).cacheMap = s.cacheMap := rfl

@[simp] theorem emit_lastKey (e : Event) (s : State) :
    (emit e s).lastKey = s.lastKey := rfl

@[simp] theorem emit_lastAnnounced (e : Event) (s : State) :
    (emit e s).lastAnnounced = s.lastAnnounced := rfl

@[simp] theorem emit_headerSent (e : Event) (s : State) :
    (emit e s).headerSent = s.headerSent := rfl

@[simp] theorem emit_frameNo (e : Event) (s : State) :
    (emit e s).frameNo = s.frameNo := rfl

@[simp] theorem emit_totalBytesOut (e : Event) (s : State) :
    (emit e s).totalBytesOut = s.totalBytesOut := rfl

@[simp] theorem emit_totalSamples (e : Event) (s : State) :
    (emit e s).totalSamples = s.totalSamples := rfl

@[simp] theorem emit_curRate (e : Event) (s : State) :
    (emit e s).curRate = s.curRate := rfl

@[simp] theorem emit_codec (e : Event) (s : State) :
    (emit e s).codec = s.codec := rfl

@[simp] theorem emit_pending (e : Event) (s : State) :
    (emit e s).pending = s.pending := rfl

@[simp] theorem emit_lastSeq (e : Event) (s : State) :
    (emit e s).lastSeq = s.lastSeq := rfl

@[simp] theorem emit_pagesSeen (e : Event) (s : State) :
    (emit e s).pagesSeen = s.pagesSeen := rfl

@[simp] theorem emit_idHeader (e : Event) (s : State) :
    (emit e s).idHeader = s.idHeader := rfl

@[simp] theorem emit_idRaw (e : Event) (s : State) :
    (emit e s).idRaw = s.idRaw := rfl

@[simp] theorem emit_streamInfo (e : Event) (s : State) :
    (emit e s).streamInfo = s.streamInfo := rfl

@[simp] theorem emit_vorbisSetup (e : Event) (s : State) :
    (emit e s).vorbisSetup = s.vorbisSetup := rfl

@[simp] theorem emit_vorbisState (e : Event) (s : State) :
    (emit e s).vorbisState = s.vorbisState := rfl

@[simp] theorem emit_outQ (e : Event) (s : State) :
    (emit e s).outQ = s.outQ ++ [e] := rfl

@[simp] theorem emit_chan (e : Event) (s : State) :
    (emit e s).chan = s.chan := rfl

@[simp] theorem emit_resp (e : Event) (s : State) :
    (emit e s).resp = s.resp := rfl

@[simp] theorem emit_unitReq (e : Event) (s : State) :
    (emit e s).unitReq = s.unitReq := rfl

@[simp] theorem emit_result (e : Event) (s : State) :
    (emit e s).result = s.result := rfl

@[simp] theorem emit_par (e : Event) (s : State) :
    (emit e s).par = s.par := rfl

/-! ### cacheEnable -/

@[simp] theorem cacheEnable_configured (s : State) :
    (cacheEnable s).configured = s.configured := rfl

@[simp] theorem cacheEnable_codecSel (s : State) :
    (cacheEnable s).codecSel = s.codecSel := rfl

@[simp] theorem cacheEnable_logEn (s : State) :
    (cacheEnable s).logEn = s.logEn := rfl

@[simp] theorem cacheEnable_crc32En (s : State) :
    (cacheEnable s).crc32En = s.crc32En := rfl

@[simp] theorem cacheEnable_buf (s : State) :
    (cacheEnable s).buf = s.buf := rfl

@[simp] theorem cacheEnable_pos (s : State) :
    (cacheEnable s).pos = s.pos := rfl

@[simp] theorem cacheEnable_totalIn (s : State) :
    (cacheEnable s).totalIn = s.totalIn := rfl

@[simp] theorem cacheEnable_mode (s : State) :
    (cacheEnable s).mode = s.mode := rfl

@[simp] theorem cacheEnable_flushing (s : State) :
    (cacheEnable s).flushing = s.flushing := rfl

@[simp] theorem cacheEnable_cacheEn (s : State) :
    (cacheEnable s).cacheEn = true := rfl

@[simp] theorem cacheEnable_cacheMap (s : State) :
    (cacheEnable s).cacheMap = s.cacheMap := rfl

@[simp] theorem cacheEnable_lastKey (s : State) :
    (cacheEnable s).lastKey = s.lastKey := rfl

@[simp] theorem cacheEnable_lastAnnounced (s : State) :
    (cacheEnable s).lastAnnounced = s.lastAnnounced := rfl

@[simp] theorem cacheEnable_headerSent (s : State) :
    (cacheEnable s).headerSent = s.headerSent := rfl

@[simp] theorem cacheEnable_frameNo (s : State) :
    (cacheEnable s).frameNo = s.frameNo := rfl

@[simp] theorem cacheEnable_totalBytesOut (s : State) :
    (cacheEnable s).totalBytesOut = s.totalBytesOut := rfl

@[simp] theorem cacheEnable_totalSamples (s : State) :
    (cacheEnable s).totalSamples = s.totalSamples := rfl

@[simp] theorem cacheEnable_curRate (s : State) :
    (cacheEnable s).curRate = s.curRate := rfl

@[simp] theorem cacheEnable_codec (s : State) :
    (cacheEnable s).codec = s.codec := rfl

@[simp] theorem cacheEnable_pending (s : State) :
    (cacheEnable s).pending = s.pending := rfl

@[simp] theorem cacheEnable_lastSeq (s : State) :
    (cacheEnable s).lastSeq = s.lastSeq := rfl

@[simp] theorem cacheEnable_pagesSeen (s : State) :
    (cacheEnable s).pagesSeen = s.pagesSeen := rfl

@[simp] theorem cacheEnable_idHeader (s : State) :
    (cacheEnable s).idHeader = s.idHeader := rfl

@[simp] theorem cacheEnable_idRaw (s : State) :
    (cacheEnable s).idRaw = s.idRaw := rfl

@[simp] theorem cacheEnable_streamInfo (s : State) :
    (cacheEnable s).streamInfo = s.streamInfo := rfl

@[simp] theorem cacheEnable_vorbisSetup (s : State) :
    (cacheEnable s).vorbisSetup = s.vorbisSetup := rfl

@[simp] theorem cacheEnable_vorbisState (s : State) :
    (cacheEnable s).vorbisState = s.vorbisState := rfl

@[simp] theorem cacheEnable_outQ (s : State) :
    (cacheEnable s).outQ = s.outQ := rfl

@[simp] theorem cacheEnable_chan (s : State) :
    (cacheEnable s).chan = s.chan := rfl

@[simp] theorem cacheEnable_resp (s : State) :
    (cacheEnable s).resp = s.resp := rfl

@[simp] theorem cacheEnable_unitReq (s : State) :
    (cacheEnable s).unitReq = s.unitReq := rfl

@[simp] theorem cacheEnable_result (s : State) :
    (cacheEnable s).result = s.result := rfl

@[simp] theorem cacheEnable_par (s : State) :
    (cacheEnable s).par = s.par := rfl

/-! ### cacheReset -/

@[simp] theorem cacheReset_configured (s : State) :
    (cacheReset s).configured = s.configured := rfl

@[simp] theorem cacheReset_codecSel (s : State) :
    (cacheReset s).codecSel = s.codecSel := rfl

@[simp] theorem cacheReset_logEn (s : State) :
    (cacheReset s).logEn = s.logEn := rfl

@[simp] theorem cacheReset_crc32En (s : State) :
    (cacheReset s).crc32En = s.crc32En := rfl

@[simp] theorem cacheReset_buf (s : State) :
    (cacheReset s).buf = s.buf := rfl

@[simp] theorem cacheReset_pos (s : State) :
    (cacheReset s).pos = s.pos := rfl

@[simp] theorem cacheReset_totalIn (s : State) :
    (cacheReset s).totalIn = s.totalIn := rfl

@[simp] theorem cacheReset_mode (s : State) :
    (cacheReset s).mode = s.mode := rfl

@[simp] theorem cacheReset_flushing (s : State) :
    (cacheReset s).flushing = s.flushing := rfl

@[simp] theorem cacheReset_cacheEn (s : State) :
    (cacheReset s).cacheEn = false := rfl

@[simp] theorem cacheReset_cacheMap (s : State) :
    (cacheReset s).cacheMap = [] := rfl

@[simp] theorem cacheReset_lastKey (s : State) :
    (cacheReset s).lastKey = none := rfl

@[simp] theorem cacheReset_lastAnnounced (s : State) :
    (cacheReset s).lastAnnounced = s.lastAnnounced := rfl

@[simp] theorem cacheReset_headerSent (s : State) :
    (cacheReset s).headerSent = s.headerSent := rfl

@[simp] theorem cacheReset_frameNo (s : State) :
    (cacheReset s).frameNo = s.frameNo := rfl

@[simp] theorem cacheReset_totalBytesOut (s : State) :
    (cacheReset s).totalBytesOut = s.totalBytesOut := rfl

@[simp] theorem cacheReset_totalSamples (s : State) :
    (cacheReset s).totalSamples = s.totalSamples := rfl

@[simp] theorem cacheReset_curRate (s : State) :
    (cacheReset s).curRate = s.curRate := rfl

@[simp] theorem cacheReset_codec (s : State) :
    (cacheReset s).codec = s.codec := rfl

@[simp] theorem cacheReset_pending (s : State) :
    (cacheReset s).pending = s.pending := rfl

@[simp] theorem cacheReset_lastSeq (s : State) :
    (cacheReset s).lastSeq = s.lastSeq := rfl

@[simp] theorem cacheReset_pagesSeen (s : State) :
    (cacheReset s).pagesSeen = s.pagesSeen := rfl

@[simp] theorem cacheReset_idHeader (s : State) :
    (cacheReset s).idHeader = s.idHeader := rfl

@[simp] theorem cacheReset_idRaw (s : State) :
    (cacheReset s).idRaw = s.idRaw := rfl

@[simp] theorem cacheReset_streamInfo (s : State) :
    (cacheReset s).streamInfo = s.streamInfo := rfl

@[simp] theorem cacheReset_vorbisSetup (s : State) :
    (cacheReset s).vorbisSetup = s.vorbisSetup := rfl

@[simp] theorem cacheReset_vorbisState (s : State) :
    (cacheReset s).vorbisState = s.vorbisState := rfl

@[simp] theorem cacheReset_outQ (s : State) :
    (cacheReset s).outQ = s.outQ := rfl

@[simp] theorem cacheReset_chan (s : State) :
    (cacheReset s).chan = s.chan := rfl

@[simp] theorem cacheReset_resp (s : State) :
    (cacheReset s).resp = s.resp := rfl

@[simp] theorem cacheReset_unitReq (s : State) :
    (cacheReset s).unitReq = s.unitReq := rfl

@[simp] theorem cacheReset_result (s : State) :
    (cacheReset s).result = s.result := rfl

@[simp] theorem cacheReset_par (s : State) :
    (cacheReset s).par = s.par := rfl

/-! ### countFrame -/

@[simp] theorem countFrame_configured (h : Header) (d : Bytes) (s : State) :
    (countFrame h d s).configured = s.configured := rfl

@[simp] theorem countFrame_codecSel (h : Header) (d : Bytes) (s : State) :
    (countFrame h d s).codecSel = s.codecSel := rfl

@[simp] theorem countFrame_logEn (h : Header) (d : Bytes) (s : State) :
    (countFrame h d s).logEn = s.logEn := rfl

@[simp] theorem countFrame_crc32En (h : Header) (d : Bytes) (s : State) :
    (countFrame h d s).crc32En = s.crc32En := rfl

@[simp] theorem countFrame_buf (h : Header) (d : Bytes) (s : State) :
    (countFrame h d s).buf = s.buf := rfl

@[simp] theorem countFrame_pos (h : Header) (d : Bytes) (s : State) :
    (countFrame h d s).pos = s.pos := rfl

@[simp] theorem countFrame_totalIn (h : Header) (d : Bytes) (s : State) :
    (countFrame h d s).totalIn = s.totalIn := rfl

@[simp] theorem countFrame_mode (h : Header) (d : Bytes) (s : State) :
    (countFrame h d s).mode = s.mode := rfl

@[simp] theorem countFrame_flushing (h : Header) (d : Bytes) (s : State) :
    (countFrame h d s).flushing = s.flushing := rfl

@[simp] theorem countFrame_cacheEn (h : Header) (d : Bytes) (s : State) :
    (countFrame h d s).cacheEn = s.cacheEn := rfl

@[simp] theorem countFrame_cacheMap (h : Header) (d : Bytes) (s : State) :
    (countFrame h d s).cacheMap = s.cacheMap := rfl

@[simp] theorem countFrame_lastKey (h : Header) (d : Bytes) (s : State) :
    (countFrame h d s).lastKey = s.lastKey := rfl

@[simp] theorem countFrame_lastAnnounced (h : Header) (d : Bytes) (s : State) :
    (countFrame h d s).lastAnnounced = s.lastAnnounced := rfl

@[simp] theorem countFrame_headerSent (h : Header) (d : Bytes) (s : State) :
    (countFrame h d s).headerSent = s.headerSent := rfl

@[simp] theorem countFrame_frameNo (h : Header) (d : Bytes) (s : State) :
    (countFrame h d s).frameNo = s.frameNo + 1 := rfl

@[simp] theorem countFrame_totalBytesOut (h : Header) (d : Bytes) (s : State) :
    (countFrame h d s).totalBytesOut = s.totalBytesOut + BitVec.ofNat 64 d.length := rfl

@[simp] theorem countFrame_totalSamples (h : Header) (d : Bytes) (s : State) :
    (countFrame h d s).totalSamples = s.totalSamples + BitVec.ofNat 64 (headerSamples h) := rfl

@[simp] theorem countFrame_curRate (h : Header) (d : Bytes) (s : State) :
    (countFrame h d s).curRate = headerSampleRate h := rfl

@[simp] theorem countFrame_codec (h : Header) (d : Bytes) (s : State) :
    (countFrame h d s).codec = s.codec := rfl

@[simp] theorem countFrame_pending (h : Header) (d : Bytes) (s : State) :
    (countFrame h d s).pending = s.pending := rfl

@[simp] theorem countFrame_lastSeq (h : Header) (d : Bytes) (s : State) :
    (countFrame h d s).lastSeq = s.lastSeq := rfl

@[simp] theorem countFrame_pagesSeen (h : Header) (d : Bytes) (s : State) :
    (countFrame h d s).pagesSeen = s.pagesSeen := rfl

@[simp] theorem countFrame_idHeader (h : Header) (d : Bytes) (s : State) :
    (countFrame h d s).idHeader = s.idHeader := rfl

@[simp] theorem countFrame_idRaw (h : Header) (d : Bytes) (s : State) :
    (countFrame h d s).idRaw = s.idRaw := rfl

@[simp] theorem countFrame_streamInfo (h : Header) (d : Bytes) (s : State) :
    (countFrame h d s).streamInfo = s.streamInfo := rfl

@[simp] theorem countFrame_vorbisSetup (h : Header) (d : Bytes) (s : State) :
    (countFrame h d s).vorbisSetup = s.vorbisSetup := rfl

@[simp] theorem countFrame_vorbisState (h : Header) (d : Bytes) (s : State) :
    (countFrame h d s).vorbisState = s.vorbisState := rfl

@[simp] theorem countFrame_outQ (h : Header) (d : Bytes) (s : State) :
    (countFrame h d s).outQ = s.outQ := rfl

@[simp] theorem countFrame_chan (h : Header) (d : Bytes) (s : State) :
    (countFrame h d s).chan = s.chan := rfl

@[simp] theorem countFrame_resp (h : Header) (d : Bytes) (s : State) :
    (countFrame h d s).resp = s.resp := rfl

@[simp] theorem countFrame_unitReq (h : Header) (d : Bytes) (s : State) :
    (countFrame h d s).unitReq = s.unitReq := rfl

@[simp] theorem countFrame_result (h : Header) (d : Bytes) (s : State) :
    (countFrame h d s).result = s.result := rfl

@[simp] theorem countFrame_par (h : Header) (d : Bytes) (s : State) :
    (countFrame h d s).par = s.par := rfl

/-! ### clearStream -/

@[simp] theorem clearStream_configured (s : State) :
    (clearStream s).configured = s.configured := rfl

@[simp] theorem clearStream_codecSel (s : State) :
    (clearStream s).codecSel = s.codecSel := rfl

@[simp] theorem clearStream_logEn (s : State) :
    (clearStream s).logEn = s.logEn := rfl

@[simp] theorem clearStream_crc32En (s : State) :
    (clearStream s).crc32En = s.crc32En := rfl

@[simp] theorem clearStream_buf (s : State) :
    (clearStream s).buf = [] := rfl

@[simp] theorem clearStream_pos (s : State) :
    (clearStream s).pos = 0 := rfl

@[simp] theorem clearStream_totalIn (s : State) :
    (clearStream s).totalIn = 0 := rfl

@[simp] theorem clearStream_mode (s : State) :
    (clearStream s).mode = .seeking := rfl

@[simp] theorem clearStream_flushing (s : State) :
    (clearStream s).flushing = false := rfl

@[simp] theorem clearStream_cacheEn (s : State) :
    (clearStream s).cacheEn = false := rfl

@[simp] theorem clearStream_cacheMap (s : State) :
    (clearStream s).cacheMap = [] := rfl

@[simp] theorem clearStream_lastKey (s : State) :
    (clearStream s).lastKey = none := rfl

@[simp] theorem clearStream_lastAnnounced (s : State) :
    (clearStream s).lastAnnounced = none := rfl

@[simp] theorem clearStream_headerSent (s : State) :
    (clearStream s).headerSent = false := rfl

@[simp] theorem clearStream_frameNo (s : State) :
    (clearStream s).frameNo = 0 := rfl

@[simp] theorem clearStream_totalBytesOut (s : State) :
    (clearStream s).totalBytesOut = 0 := rfl

@[simp] theorem clearStream_totalSamples (s : State) :
    (clearStream s).totalSamples = 0 := rfl

@[simp] theorem clearStream_curRate (s : State) :
    (clearStream s).curRate = 0 := rfl

@[simp] theorem clearStream_codec (s : State) :
    (clearStream s).codec = s.codec := rfl

@[simp] theorem clearStream_pending (s : State) :
    (clearStream s).pending = [] := rfl

@[simp] theorem clearStream_lastSeq (s : State) :
    (clearStream s).lastSeq = 0 := rfl

@[simp] theorem clearStream_pagesSeen (s : State) :
    (clearStream s).pagesSeen = 0 := rfl

@[simp] theorem clearStream_idHeader (s : State) :
    (clearStream s).idHeader = none := rfl

@[simp] theorem clearStream_idRaw (s : State) :
    (clearStream s).idRaw = none := rfl

@[simp] theorem clearStream_streamInfo (s : State) :
    (clearStream s).streamInfo = none := rfl

@[simp] theorem clearStream_vorbisSetup (s : State) :
    (clearStream s).vorbisSetup = none := rfl

@[simp] theorem clearStream_vorbisState (s : State) :
    (clearStream s).vorbisState = none := rfl

@[simp] theorem clearStream_outQ (s : State) :
    (clearStream s).outQ = s.outQ := rfl

@[simp] theorem clearStream_chan (s : State) :
    (clearStream s).chan = s.chan := rfl

@[simp] theorem clearStream_resp (s : State) :
    (clearStream s).resp = s.resp := rfl

@[simp] theorem clearStream_unitReq (s : State) :
    (clearStream s).unitReq = s.unitReq := rfl

@[simp] theorem clearStream_result (s : State) :
    (clearStream s).result = s.result := rfl

@[simp] theorem clearStream_par (s : State) :
    (clearStream s).par = s.par := rfl

/-! ### fullReset -/

@[simp] theorem fullReset_configured (s : State) :
    (fullReset s).configured = false := rfl

@[simp] theorem fullReset_codecSel (s : State) :
    (fullReset s).codecSel = 0 := rfl

@[simp] theorem fullReset_logEn (s : State) :
    (fullReset s).logEn = false := rfl

@[simp] theorem fullReset_crc32En (s : State) :
    (fullReset s).crc32En = false := rfl

@[simp] theorem fullReset_buf (s : State) :
    (fullReset s).buf = [] := rfl

@[simp] theorem fullReset_pos (s : State) :
    (fullReset s).pos = 0 := rfl

@[simp] theorem fullReset_totalIn (s : State) :
    (fullReset s).totalIn = 0 := rfl

@[simp] theorem fullReset_mode (s : State) :
    (fullReset s).mode = .seeking := rfl

@[simp] theorem fullReset_flushing (s : State) :
    (fullReset s).flushing = false := rfl

@[simp] theorem fullReset_cacheEn (s : State) :
    (fullReset s).cacheEn = false := rfl

@[simp] theorem fullReset_cacheMap (s : State) :
    (fullReset s).cacheMap = [] := rfl

@[simp] theorem fullReset_lastKey (s : State) :
    (fullReset s).lastKey = none := rfl

@[simp] theorem fullReset_lastAnnounced (s : State) :
    (fullReset s).lastAnnounced = none := rfl

@[simp] theorem fullReset_headerSent (s : State) :
    (fullReset s).headerSent = false := rfl

@[simp] theorem fullReset_frameNo (s : State) :
    (fullReset s).frameNo = 0 := rfl

@[simp] theorem fullReset_totalBytesOut (s : State) :
    (fullReset s).totalBytesOut = 0 := rfl

@[simp] theorem fullReset_totalSamples (s : State) :
    (fullReset s).totalSamples = 0 := rfl

@[simp] theorem fullReset_curRate (s : State) :
    (fullReset s).curRate = 0 := rfl

@[simp] theorem fullReset_codec (s : State) :
    (fullReset s).codec = .unset := rfl

@[simp] theorem fullReset_pending (s : State) :
    (fullReset s).pending = [] := rfl

@[simp] theorem fullReset_lastSeq (s : State) :
    (fullReset s).lastSeq = 0 := rfl

@[simp] theorem fullReset_pagesSeen (s : State) :
    (fullReset s).pagesSeen = 0 := rfl

@[simp] theorem fullReset_idHeader (s : State) :
    (fullReset s).idHeader = none := rfl

@[simp] theorem fullReset_idRaw (s : State) :
    (fullReset s).idRaw = none := rfl

@[simp] theorem fullReset_streamInfo (s : State) :
    (fullReset s).streamInfo = none := rfl

@[simp] theorem fullReset_vorbisSetup (s : State) :
    (fullReset s).vorbisSetup = none := rfl

@[simp] theorem fullReset_vorbisState (s : State) :
    (fullReset s).vorbisState = none := rfl

@[simp] theorem fullReset_outQ (s : State) :
    (fullReset s).outQ = [] := rfl

@[simp] theorem fullReset_chan (s : State) :
    (fullReset s).chan = s.chan := rfl

@[simp] theorem fullReset_resp (s : State) :
    (fullReset s).resp = s.resp := rfl

@[simp] theorem fullReset_unitReq (s : State) :
    (fullReset s).unitReq = s.unitReq := rfl

@[simp] theorem fullReset_result (s : State) :
    (fullReset s).result = s.result := rfl

@[simp] theorem fullReset_par (s : State) :
    (fullReset s).par = s.par := rfl

/-! ### flushComplete -/

@[simp] theorem flushComplete_configured (s : State) :
    (flushComplete s).configured = s.configured := rfl

@[simp] theorem flushComplete_codecSel (s : State) :
    (flushComplete s).codecSel = s.codecSel := rfl

@[simp] theorem flushComplete_logEn (s : State) :
    (flushComplete s).logEn = s.logEn := rfl

@[simp] theorem flushComplete_crc32En (s : State) :
    (flushComplete s).crc32En = s.crc32En := rfl

@[simp] theorem flushComplete_buf (s : State) :
    (flushComplete s).buf = [] := rfl

@[simp] theorem flushComplete_pos (s : State) :
    (flushComplete s).pos = 0 := rfl

@[simp] theorem flushComplete_totalIn (s : State) :
    (flushComplete s).totalIn = 0 := rfl

@[simp] theorem flushComplete_mode (s : State) :
    (flushComplete s).mode = .seeking := rfl

@[simp] theorem flushComplete_flushing (s : State) :
    (flushComplete s).flushing = false := rfl

@[simp] theorem flushComplete_cacheEn (s : State) :
    (flushComplete s).cacheEn = false := rfl

@[simp] theorem flushComplete_cacheMap (s : State) :
    (flushComplete s).cacheMap = [] := rfl

@[simp] theorem flushComplete_lastKey (s : State) :
    (flushComplete s).lastKey = none := rfl

@[simp] theorem flushComplete_lastAnnounced (s : State) :
    (flushComplete s).lastAnnounced = none := rfl

@[simp] theorem flushComplete_headerSent (s : State) :
    (flushComplete s).headerSent = false := rfl

@[simp] theorem flushComplete_frameNo (s : State) :
    (flushComplete s).frameNo = 0 := rfl

@[simp] theorem flushComplete_totalBytesOut (s : State) :
    (flushComplete s).totalBytesOut = 0 := rfl

@[simp] theorem flushComplete_totalSamples (s : State) :
    (flushComplete s).totalSamples = 0 := rfl

@[simp] theorem flushComplete_curRate (s : State) :
    (flushComplete s).curRate = 0 := rfl

@[simp] theorem flushComplete_codec (s : State) :
    (flushComplete s).codec = if s.codecSel = 3 then .unset else s.codec := rfl

@[simp] theorem flushComplete_pending (s : State) :
    (flushComplete s).pending = [] := rfl

@[simp] theorem flushComplete_lastSeq (s : State) :
    (flushComplete s).lastSeq = 0 := rfl

@[simp] theorem flushComplete_pagesSeen (s : State) :
    (flushComplete s).pagesSeen = 0 := rfl

@[simp] theorem flushComplete_idHeader (s : State) :
    (flushComplete s).idHeader = none := rfl

@[simp] theorem flushComplete_idRaw (s : State) :
    (flushComplete s).idRaw = none := rfl

@[simp] theorem flushComplete_streamInfo (s : State) :
    (flushComplete s).streamInfo = none := rfl

@[simp] theorem flushComplete_vorbisSetup (s : State) :
    (flushComplete s).vorbisSetup = none := rfl

@[simp] theorem flushComplete_vorbisState (s : State) :
    (flushComplete s).vorbisState = none := rfl

@[simp] theorem flushComplete_outQ (s : State) :
    (flushComplete s).outQ = s.outQ := rfl

@[simp] theorem flushComplete_chan (s : State) :
    (flushComplete s).chan = s.chan := rfl

@[simp] theorem flushComplete_resp (s : State) :
    (flushComplete s).resp = s.resp := rfl

@[simp] theorem flushComplete_unitReq (s : State) :
    (flushComplete s).unitReq = s.unitReq := rfl

@[simp] theorem flushComplete_result (s : State) :
    (flushComplete s).result = s.result := rfl

@[simp] theorem flushComplete_par (s : State) :
    (flushComplete s).par = s.par := rfl

end Sys2Proof.Machine
end

