-- ==== Sys2Proof/Laws/Ops.lean ====
section
/-! SUPPORT. What each shared operation over the accumulator, the events, the cache and the frame assembly
can do, said once. -/

namespace Sys2Proof.Machine

/-! ### The accumulator -/

theorem memory_wf_iff (s : State) :
    Memory.wf s = true ↔ s.buf.length ≤ s.par.bufCap ∧ s.pending.length ≤ s.par.pendCap := by
  simp [Memory.wf]

theorem reset_memory_wf : Memory.wf State.reset = true := by decide

theorem appendBytes_memory_wf (d : Bytes) (s : State) (h : Memory.wf s = true)
    (room : s.buf.length + d.length ≤ s.par.bufCap) : Memory.wf (appendBytes d s) = true := by
  rw [memory_wf_iff] at *; simp; omega

theorem advanceBy_memory_wf (n : Nat) (s : State) (h : Memory.wf s = true) :
    Memory.wf (advanceBy n s) = true := by
  rw [memory_wf_iff] at *; simp; omega

theorem advanceBy_advanceBy (m n : Nat) (s : State) :
    advanceBy n (advanceBy m s) = advanceBy (m + n) s := by
  simp [advanceBy, List.drop_drop, BitVec.ofNat_add, BitVec.add_assoc]

theorem appendBytes_appendBytes (c d : Bytes) (s : State) :
    appendBytes d (appendBytes c s) = appendBytes (c ++ d) s := by
  simp [appendBytes, BitVec.ofNat_add, BitVec.add_assoc]

theorem advanceBy_appendBytes (n : Nat) (d : Bytes) (s : State) (h : n ≤ s.buf.length) :
    advanceBy n (appendBytes d s) = appendBytes d (advanceBy n s) := by
  simp [advanceBy, appendBytes, List.drop_append_of_le_length h]

theorem appendBytes_streamByte (d : Bytes) (s : State) (i : Word64)
    (h : (i - s.pos).toNat < s.buf.length) :
    streamByte (appendBytes d s) i = streamByte s i := by
  unfold streamByte; exact List.getElem?_append_left h

theorem requireBytes_satisfied (n off : Nat) (s : State) :
    requireBytes n off s = .satisfied ↔ n = 0 ∨ off + n ≤ s.buf.length := by
  unfold requireBytes; split <;> [simp_all; (split <;> simp_all)]

theorem requireBytes_suspends (n off k : Nat) (s : State) :
    requireBytes n off s = .suspends k ↔
      1 ≤ n ∧ s.buf.length < off + n ∧ s.flushing = false ∧ k = off + n - s.buf.length := by
  unfold requireBytes; split
  · next h => exact ⟨nofun, fun k => absurd h (by omega)⟩
  · next h =>
    split
    · next f => exact ⟨nofun, fun k => absurd f (by rw [k.2.2.1]; exact Bool.false_ne_true)⟩
    · next f =>
      rw [Bool.not_eq_true] at f
      exact ⟨fun e => ⟨by omega, by omega, f, (RequireResult.suspends.inj e).symm⟩,
        fun k => by rw [k.2.2.2]⟩

/-! ### Warnings -/

/-- A warning is one event at the tail of outQ while logEn is set, and nothing otherwise. -/
theorem warn_cases (w : Warning) (off : Nat) (info : WarnInfo) (s : State) :
    (s.logEn = true ∧ warn w off info s = emit (.warn w (s.pos + BitVec.ofNat 64 off) info) s)
      ∨ (s.logEn = false ∧ warn w off info s = s) := by
  unfold warn; cases s.logEn <;> simp

/-- A warning writes outQ alone, and at most one event. -/
theorem warn_outQ_only (w : Warning) (off : Nat) (info : WarnInfo) (s : State) :
    ∃ q, warn w off info s = { s with outQ := s.outQ ++ q } ∧ q.length ≤ 1 := by
  rcases warn_cases w off info s with ⟨-, h⟩ | ⟨-, h⟩
  · exact ⟨[_], h, by simp⟩
  · exact ⟨[], by rw [h]; simp, by simp⟩

/-! ### The cache -/

@[simp] theorem cacheFind_nil (key : Bytes) : cacheFind [] key = none := rfl

/-- A lookup writes lastKey alone, and only on a hit. -/
theorem cacheLookup_cases (key : Bytes) (s : State) :
    (∃ v, s.cacheEn = true ∧ cacheFind s.cacheMap key = some v
        ∧ cacheLookup key s = (some v, { s with lastKey := some key }))
      ∨ ((s.cacheEn = false ∨ cacheFind s.cacheMap key = none) ∧ cacheLookup key s = (none, s)) := by
  unfold cacheLookup
  cases s.cacheEn <;> cases cacheFind s.cacheMap key <;> simp

/-- Every lookup leaves all but lastKey. -/
theorem cacheLookup_state (key : Bytes) (s : State) :
    ∃ k, (cacheLookup key s).2 = { s with lastKey := k } := by
  rcases cacheLookup_cases key s with ⟨v, -, -, h⟩ | ⟨-, h⟩
  · exact ⟨_, by rw [h]⟩
  · exact ⟨s.lastKey, by rw [h]⟩

/-- A store writes lastKey and the map alone: nothing while disabled, else the key, and a new entry when
the key is new and the map has room. -/
theorem cacheStore_cases (key : Bytes) (h : Header) (i : Identity) (s : State) :
    (s.cacheEn = false ∧ cacheStore key h i s = s)
      ∨ (s.cacheEn = true
          ∧ ((cacheFind s.cacheMap key).isSome = true ∨ s.par.cacheEntries ≤ s.cacheMap.length)
          ∧ cacheStore key h i s = { s with lastKey := some key })
      ∨ (s.cacheEn = true ∧ cacheFind s.cacheMap key = none ∧ s.cacheMap.length < s.par.cacheEntries
          ∧ cacheStore key h i s
              = { s with lastKey := some key, cacheMap := cacheInsert s.cacheMap key (h, i) }) := by
  cases he : s.cacheEn
  · exact .inl ⟨rfl, by simp [cacheStore, he]⟩
  · right
    cases hf : cacheFind s.cacheMap key with
    | some v => exact .inl ⟨rfl, .inl rfl, by simp [cacheStore, he, hf]⟩
    | none =>
      by_cases hl : s.cacheMap.length < s.par.cacheEntries
      · exact .inr ⟨rfl, rfl, hl, by simp [cacheStore, he, hf, hl]⟩
      · exact .inl ⟨rfl, .inr (Nat.not_lt.mp hl), by simp [cacheStore, he, hf, hl]⟩

/-- Every store leaves all but lastKey and the map. -/
theorem cacheStore_state (key : Bytes) (h : Header) (i : Identity) (s : State) :
    ∃ k m, cacheStore key h i s = { s with lastKey := k, cacheMap := m } := by
  rcases cacheStore_cases key h i s with ⟨-, e⟩ | ⟨-, -, e⟩ | ⟨-, -, -, e⟩
  · exact ⟨s.lastKey, s.cacheMap, by rw [e]⟩
  · exact ⟨_, s.cacheMap, by rw [e]⟩
  · exact ⟨_, _, by rw [e]⟩

@[simp] theorem cacheInsert_length (m : List CacheEntry) (key : Bytes) (v : Header × Identity) :
    (cacheInsert m key v).length = m.length + 1 := by
  induction m with
  | nil => rfl
  | cons a rest ih => obtain ⟨k, u⟩ := a; simp only [cacheInsert]; split <;> simp [ih]

theorem keyBefore_irrefl (a : Bytes) : keyBefore a a = false := by
  induction a with
  | nil => rfl
  | cons x xs ih => simp [keyBefore, ih]

theorem keyBefore_total (a b : Bytes) (h : a ≠ b) : keyBefore a b = true ∨ keyBefore b a = true := by
  induction a generalizing b with
  | nil => cases b <;> simp_all [keyBefore]
  | cons x xs ih =>
    cases b with
    | nil => simp [keyBefore]
    | cons y ys =>
      simp only [keyBefore, Bool.or_eq_true, Bool.and_eq_true, decide_eq_true_eq]
      by_cases hxy : x = y
      · subst hxy
        have := ih ys (fun e => h (by rw [e]))
        simp_all
      · have : x.toNat ≠ y.toNat := fun e => hxy (BitVec.eq_of_toNat_eq e)
        omega

theorem cacheInsert_find (m : List CacheEntry) (key k : Bytes) (v : Header × Identity)
    (h : cacheFind m key = none) :
    cacheFind (cacheInsert m key v) k = if key = k then some v else cacheFind m k := by
  induction m with
  | nil => simp [cacheInsert, cacheFind]
  | cons a rest ih =>
    obtain ⟨x, u⟩ := a
    simp only [cacheFind] at h
    split at h
    · cases h
    · next hx =>
      simp only [cacheInsert]
      split
      · simp [cacheFind]
      · simp only [cacheFind, ih h]
        split
        · next e => subst e; simp [Ne.symm hx]
        · rfl

theorem cacheSorted_cons (a : CacheEntry) (m : List CacheEntry) :
    cacheSorted (a :: m) = true ↔
      (∀ b, m.head? = some b → keyBefore a.1 b.1 = true) ∧ cacheSorted m = true := by
  cases m with
  | nil => simp [cacheSorted]
  | cons b rest => simp [cacheSorted]

theorem cacheInsert_head (m : List CacheEntry) (key : Bytes) (v : Header × Identity) (b : CacheEntry)
    (h : (cacheInsert m key v).head? = some b) : b = (key, v) ∨ m.head? = some b := by
  cases m with
  | nil => left; simpa [cacheInsert, eq_comm] using h
  | cons a rest =>
    obtain ⟨k, u⟩ := a
    simp only [cacheInsert] at h
    split at h
    · left; simpa [eq_comm] using h
    · right; exact h

/-- A new key keeps the list canonical. -/
theorem cacheInsert_sorted (m : List CacheEntry) (key : Bytes) (v : Header × Identity)
    (hs : cacheSorted m = true) (hf : cacheFind m key = none) :
    cacheSorted (cacheInsert m key v) = true := by
  induction m with
  | nil => rfl
  | cons a rest ih =>
    obtain ⟨k, u⟩ := a
    rw [cacheSorted_cons] at hs
    simp only [cacheFind] at hf
    split at hf
    · cases hf
    · next hk =>
      simp only [cacheInsert]
      split
      · next hb =>
        rw [cacheSorted_cons, cacheSorted_cons]
        exact ⟨by simp [hb], hs⟩
      · next hb =>
        rw [cacheSorted_cons]
        refine ⟨fun b hb' => ?_, ih hs.2 hf⟩
        rcases cacheInsert_head _ _ _ _ hb' with rfl | h
        · exact (keyBefore_total _ _ hk).resolve_right hb
        · exact hs.1 b h

theorem cacheInsert_all (p : CacheEntry → Bool) (m : List CacheEntry) (key : Bytes)
    (v : Header × Identity) :
    (cacheInsert m key v).all p = (p (key, v) && m.all p) := by
  induction m with
  | nil => simp [cacheInsert]
  | cons a rest ih =>
    obtain ⟨k, u⟩ := a
    simp only [cacheInsert]
    split
    · simp
    · simp only [List.all_cons, ih]; cases p (key, v) <;> cases p (k, u) <;> simp

theorem cacheFind_mem (m : List CacheEntry) (key : Bytes) (v : Header × Identity)
    (h : cacheFind m key = some v) : (key, v) ∈ m := by
  induction m with
  | nil => cases h
  | cons a rest ih =>
    obtain ⟨k, u⟩ := a
    simp only [cacheFind] at h
    split at h
    · next e => cases h; subst e; simp
    · exact List.mem_cons_of_mem _ (ih h)

/-- A store keeps the list canonical and within CACHE_ENTRIES. -/
theorem cacheStore_form (key : Bytes) (h : Header) (i : Identity) (s : State)
    (hs : cacheSorted s.cacheMap = true) (hl : s.cacheMap.length ≤ s.par.cacheEntries) :
    cacheSorted (cacheStore key h i s).cacheMap = true
      ∧ (cacheStore key h i s).cacheMap.length ≤ s.par.cacheEntries := by
  rcases cacheStore_cases key h i s with ⟨-, e⟩ | ⟨-, -, e⟩ | ⟨-, hf, hr, e⟩ <;> rw [e]
  · exact ⟨hs, hl⟩
  · exact ⟨hs, hl⟩
  · exact ⟨cacheInsert_sorted _ _ _ hs hf, by simp; omega⟩

/-! ### Callbacks, frame assembly, statistics -/

/-- announce writes lastAnnounced, headerSent and the tail of outQ alone, and queues at most two events. -/
theorem announce_state (h : Header) (s : State) :
    ∃ q, announce h s
        = { s with lastAnnounced := some (identityOf h), headerSent := true, outQ := s.outQ ++ q }
      ∧ q.length ≤ 2 := by
  refine ⟨(if s.headerSent then [] else [.codecHeader h])
    ++ (if s.lastAnnounced = some (identityOf h) then [] else [.codecUpdate (identityOf h)]), ?_, ?_⟩
  · unfold announce announceIdentity announceHeader
    obtain ⟨⟩ := s
    simp only [emit]
    split <;> split <;> simp_all
  · cases s.headerSent <;> by_cases hl : s.lastAnnounced = some (identityOf h) <;> simp [hl]

/-- noteFrame writes the callbacks' state, the cache's bookkeeping and the tail of outQ alone. -/
theorem noteFrame_state (h : Header) (d : Bytes) (s : State) :
    ∃ a t k m q, noteFrame h d s
        = { s with lastAnnounced := a, headerSent := t, lastKey := k, cacheMap := m, outQ := s.outQ ++ q }
      ∧ q.length ≤ 2 := by
  unfold noteFrame
  cases he : s.cacheEn
  · exact ⟨s.lastAnnounced, s.headerSent, s.lastKey, s.cacheMap, [], by simp [← he], by simp⟩
  · obtain ⟨q, hq, hl⟩ := announce_state h s
    obtain ⟨k, m, hk⟩ := cacheStore_state (frameKey h d s) h (identityOf h) (announce h s)
    refine ⟨some (identityOf h), true, k, m, q, ?_, hl⟩
    rw [if_pos rfl, hk, hq, ← he]

/-- Without the cache a frame fires nothing and stores nothing (R177). -/
theorem noteFrame_disabled (h : Header) (d : Bytes) (s : State) (he : s.cacheEn = false) :
    noteFrame h d s = s := by
  simp [noteFrame, he]

/-- mapFrame's record carries the totals before it, and the counters go on by one frame (R180). -/
theorem mapFrame_eq (h : Header) (d : Bytes) (o : Option Word64) (c t : Bool) (s : State) :
    mapFrame h d o c t s = (frameRecord h d o c t s, countFrame h d (noteFrame h d s)) := rfl

/-- emitFrame queues the callbacks' events and the frame, at most three events. -/
theorem emitFrame_state (h : Header) (d : Bytes) (c t : Bool) (s : State) :
    ∃ a b k m q, emitFrame h d c t s
        = countFrame h d
            { s with
              lastAnnounced := a, headerSent := b, lastKey := k, cacheMap := m,
              outQ := s.outQ ++ q ++ [.frame (frameRecord h d (some s.pos) c t s)] }
      ∧ q.length ≤ 2 := by
  obtain ⟨a, b, k, m, q, hn, hl⟩ := noteFrame_state h d s
  refine ⟨a, b, k, m, q, ?_, hl⟩
  simp [emitFrame, mapFrame, hn, emit, countFrame]

end Sys2Proof.Machine
end

