-- ==== Sys2Proof/Laws/Parsing.lean ====
section
/-! SUPPORT. What parsing a header, a packet or a page can do: it reads the accumulator and leaves it, the
configuration and the sync state alone. -/

namespace Sys2Proof.Machine

/-- The fields no decoder, packet parser or page effect writes. -/
structure SameInput (s t : State) : Prop where
  configured : t.configured = s.configured
  codecSel : t.codecSel = s.codecSel
  logEn : t.logEn = s.logEn
  crc32En : t.crc32En = s.crc32En
  buf : t.buf = s.buf
  pos : t.pos = s.pos
  totalIn : t.totalIn = s.totalIn
  mode : t.mode = s.mode
  flushing : t.flushing = s.flushing
  cacheEn : t.cacheEn = s.cacheEn
  chan : t.chan = s.chan
  resp : t.resp = s.resp
  unitReq : t.unitReq = s.unitReq
  result : t.result = s.result
  par : t.par = s.par

namespace SameInput

theorem refl (s : State) : SameInput s s := by constructor <;> rfl

theorem trans {s t u : State} (a : SameInput s t) (b : SameInput t u) : SameInput s u where
  configured := b.configured.trans a.configured
  codecSel := b.codecSel.trans a.codecSel
  logEn := b.logEn.trans a.logEn
  crc32En := b.crc32En.trans a.crc32En
  buf := b.buf.trans a.buf
  pos := b.pos.trans a.pos
  totalIn := b.totalIn.trans a.totalIn
  mode := b.mode.trans a.mode
  flushing := b.flushing.trans a.flushing
  cacheEn := b.cacheEn.trans a.cacheEn
  chan := b.chan.trans a.chan
  resp := b.resp.trans a.resp
  unitReq := b.unitReq.trans a.unitReq
  result := b.result.trans a.result
  par := b.par.trans a.par

theorem emit (e : Event) (s : State) : SameInput s (emit e s) := by constructor <;> rfl

theorem countFrame (h : Header) (d : Bytes) (s : State) : SameInput s (countFrame h d s) := by
  constructor <;> rfl

theorem warn (w : Warning) (off : Nat) (info : WarnInfo) (s : State) :
    SameInput s (warn w off info s) := by
  obtain ⟨q, h, -⟩ := warn_outQ_only w off info s
  rw [h]; constructor <;> rfl

theorem cacheLookup (key : Bytes) (s : State) : SameInput s (cacheLookup key s).2 := by
  obtain ⟨k, h⟩ := cacheLookup_state key s
  rw [h]; constructor <;> rfl

theorem noteFrame (h : Header) (d : Bytes) (s : State) : SameInput s (noteFrame h d s) := by
  obtain ⟨a, t, k, m, q, e, -⟩ := noteFrame_state h d s
  rw [e]; constructor <;> rfl

theorem mapFrame (h : Header) (d : Bytes) (o : Option Word64) (c t : Bool) (s : State) :
    SameInput s (mapFrame h d o c t s).2 :=
  (noteFrame h d s).trans (countFrame h d _)

theorem emitFrame (h : Header) (d : Bytes) (c t : Bool) (s : State) :
    SameInput s (emitFrame h d c t s) :=
  (mapFrame h d (some s.pos) c t s).trans (emit _ _)

end SameInput

/-! ### Header decoders write lastKey alone (R134) -/

theorem decodeMpeg_state (b : Bytes) (s : State) :
    ∃ k, (decodeMpeg b s).2 = { s with lastKey := k } := by
  obtain ⟨k, h⟩ := cacheLookup_state (mpegKey b) s
  unfold decodeMpeg
  split
  · exact ⟨s.lastKey, rfl⟩
  · refine ⟨k, ?_⟩
    simp only
    split
    · exact h
    · split <;> exact h

theorem decodeAdts_state (b : Bytes) (s : State) :
    ∃ k, (decodeAdts b s).2 = { s with lastKey := k } := by
  obtain ⟨k, h⟩ := cacheLookup_state (adtsKey b) s
  unfold decodeAdts
  split
  · exact ⟨s.lastKey, rfl⟩
  · refine ⟨k, ?_⟩
    simp only
    split
    · exact h
    · split
      · exact h
      · split <;> exact h

theorem decodeFlac_state (b : Bytes) (si : Option StreamInfo) (s : State) :
    ∃ k, (decodeFlac b si s).2 = { s with lastKey := k } := by
  obtain ⟨k, h⟩ := cacheLookup_state (flacKey b) s
  unfold decodeFlac
  split
  · exact ⟨s.lastKey, rfl⟩
  · refine ⟨k, ?_⟩
    simp only
    split
    · exact h
    · split
      · exact h
      · split
        · exact h
        · split
          · exact h
          · split <;> exact h

namespace SameInput

theorem decodeMpeg (b : Bytes) (s : State) : SameInput s (decodeMpeg b s).2 := by
  obtain ⟨k, h⟩ := decodeMpeg_state b s
  rw [h]; constructor <;> rfl

theorem decodeAdts (b : Bytes) (s : State) : SameInput s (decodeAdts b s).2 := by
  obtain ⟨k, h⟩ := decodeAdts_state b s
  rw [h]; constructor <;> rfl

theorem decodeFlac (b : Bytes) (si : Option StreamInfo) (s : State) :
    SameInput s (decodeFlac b si s).2 := by
  obtain ⟨k, h⟩ := decodeFlac_state b si s
  rw [h]; constructor <;> rfl

/-! ### Packet parsers -/

theorem opusIdPacket (p : Bytes) (s : State) : SameInput s (opusIdPacket p s).2 := by
  unfold Machine.opusIdPacket
  split
  · exact refl s
  · split
    · constructor <;> rfl
    · exact warn _ _ _ s

theorem opusAudioPacket (p : Bytes) (s : State) : SameInput s (opusAudioPacket p s).2 := by
  unfold Machine.opusAudioPacket
  split
  · split
    · exact warn _ _ _ s
    · have hl := cacheLookup (opusKey s p) s
      simp only
      split
      · exact hl
      · exact hl.trans (warn _ _ _ _)
  · exact warn _ _ _ s

theorem opusPacket (p : Bytes) (s : State) : SameInput s (opusPacket p s).2 := by
  unfold Machine.opusPacket
  split
  · exact opusIdPacket p s
  · split
    · exact refl s
    · exact opusAudioPacket p s

theorem vorbisIdPacket (p : Bytes) (s : State) : SameInput s (vorbisIdPacket p s).2 := by
  unfold Machine.vorbisIdPacket
  split
  · exact refl s
  · split
    · constructor <;> rfl
    · exact warn _ _ _ s

theorem vorbisSetupPacket (p : Bytes) (s : State) : SameInput s (vorbisSetupPacket p s).2 := by
  unfold Machine.vorbisSetupPacket
  split
  · exact refl s
  · constructor <;> rfl

theorem vorbisAudioPacket (p : Bytes) (s : State) : SameInput s (vorbisAudioPacket p s).2 := by
  unfold Machine.vorbisAudioPacket
  split
  · constructor <;> rfl
  · exact warn _ _ _ s

theorem vorbisPacket (p : Bytes) (s : State) : SameInput s (vorbisPacket p s).2 := by
  unfold Machine.vorbisPacket
  split
  · exact warn _ _ _ s
  · split
    · split
      · exact vorbisIdPacket p s
      · split
        · exact refl s
        · split
          · exact vorbisSetupPacket p s
          · exact warn _ _ _ s
    · exact vorbisAudioPacket p s

theorem oggFlacIdPacket (p : Bytes) (s : State) : SameInput s (oggFlacIdPacket p s).2 := by
  unfold Machine.oggFlacIdPacket
  split
  · exact refl s
  · split
    · constructor <;> rfl
    · exact warn _ _ _ s

theorem oggFlacFramePacket (p : Bytes) (s : State) : SameInput s (oggFlacFramePacket p s).2 := by
  have hd := decodeFlac p s.streamInfo s
  unfold Machine.oggFlacFramePacket
  split
  · split
    · next e => rw [e] at hd; exact hd
    · next e => rw [e] at hd; exact hd.trans (warn _ _ _ _)
  · exact warn _ _ _ s

theorem oggFlacPacket (p : Bytes) (s : State) : SameInput s (oggFlacPacket p s).2 := by
  unfold Machine.oggFlacPacket
  split
  · exact oggFlacIdPacket p s
  · split
    · exact oggFlacFramePacket p s
    · exact refl s

/-- No packet parser touches the accumulator, the configuration or the sync state (R209). -/
theorem codecPacket (p : Bytes) (s : State) : SameInput s (codecPacket p s).2 := by
  unfold Machine.codecPacket
  split
  · exact opusPacket p s
  · exact vorbisPacket p s
  · exact oggFlacPacket p s
  all_goals exact refl s

/-! ### Pages -/

theorem seqCheck (h : OggPageHeader) (s : State) : SameInput s (seqCheck h s) := by
  unfold Machine.seqCheck
  simp only
  split
  · exact (warn _ _ _ s).trans (by constructor <;> rfl)
  · constructor <;> rfl

theorem setPending (q : Bytes) (s : State) : SameInput s (setPending q s) := by
  unfold Machine.setPending
  split
  · constructor <;> rfl
  · exact SameInput.trans (t := { s with pending := [] }) (by constructor <;> rfl) (warn _ _ _ _)

theorem continuation (pk : List PagePacket) (s : State) : SameInput s (continuation pk s).2 := by
  have hold : ∀ pk s, SameInput s (holdBack pk s).2 := by
    intro pk s
    unfold holdBack
    split
    · exact setPending _ s
    · exact refl s
  have pre : SameInput s (prependPending pk s).2 := by
    unfold prependPending
    split
    · split
      · exact refl s
      · constructor <;> rfl
    · exact refl s
  exact pre.trans (hold _ _)

theorem sniff (pk : List Bytes) (s : State) : SameInput s (sniff pk s).2 := by
  unfold Machine.sniff
  split
  · exact refl s
  · split
    · constructor <;> rfl
    · exact refl s

theorem dispatchPackets (pk : List Bytes) (c : Bool) (s : State) :
    SameInput s (dispatchPackets pk c s).2 := by
  induction pk generalizing s with
  | nil => exact refl s
  | cons p rest ih =>
    have hp := codecPacket p s
    unfold Machine.dispatchPackets
    split
    · next h t e =>
      rw [e] at hp
      exact (hp.trans (mapFrame h p none c false t)).trans (ih _)
    · next e =>
      rw [e] at hp
      exact hp.trans (ih _)

/-- What processPage does before it advances leaves the accumulator and the sync state (R193). -/
theorem pageEffects (h : OggPageHeader) (c : Bool) (s : State) : SameInput s (pageEffects h c s) := by
  unfold Machine.pageEffects
  have h1 := seqCheck h s
  have h2 := continuation (splitPackets h.segmentTable
    (slice (s.buf.take h.pageLength) h.headerLength h.pageLength) []) (Machine.seqCheck h s)
  have h3 : ∀ (pk : List Bytes) (t : State),
      SameInput t (if t.codec = .unset then Machine.sniff pk t else (true, t)).2 := by
    intro pk t
    split
    · exact sniff pk t
    · exact refl t
  have h4 : ∀ (pk : List Bytes) (r : Bool × State), SameInput s r.2 →
      SameInput s (if r.1 = true then emitPage h (s.buf.take h.pageLength)
        (Machine.dispatchPackets pk c r.2).1 c (Machine.dispatchPackets pk c r.2).2 else r.2) := by
    intro pk r hr
    split
    · exact (hr.trans (dispatchPackets _ _ _)).trans (emit _ _)
    · exact hr
  exact h4 _ _ ((h1.trans h2).trans (h3 _ _))

end SameInput

/-! ### The continuation buffer keeps its bound (R30) -/

theorem setPending_memory_wf (q : Bytes) (s : State) (h : Memory.wf s = true) :
    Memory.wf (setPending q s) = true := by
  rw [memory_wf_iff] at *
  unfold setPending
  split
  · next hq => exact ⟨h.1, hq⟩
  · obtain ⟨k, e, -⟩ := warn_outQ_only .pendingOverflow 0 (.length q.length) { s with pending := [] }
    rw [e]
    exact ⟨h.1, Nat.zero_le _⟩

end Sys2Proof.Machine
end

