-- ==== Sys2Proof/Laws/Sync.lean ====
section
/-! SUPPORT. What a micro-step can do: a suspended one has no state, a committed one leaves the
configuration, the flush bit, the input count and the host's side alone. -/

namespace Sys2Proof.Machine

/-- The fields no committed micro-step writes. -/
structure SameControl (s t : State) : Prop where
  configured : t.configured = s.configured
  codecSel : t.codecSel = s.codecSel
  logEn : t.logEn = s.logEn
  crc32En : t.crc32En = s.crc32En
  totalIn : t.totalIn = s.totalIn
  flushing : t.flushing = s.flushing
  chan : t.chan = s.chan
  resp : t.resp = s.resp
  unitReq : t.unitReq = s.unitReq
  result : t.result = s.result
  par : t.par = s.par

namespace SameControl

theorem refl (s : State) : SameControl s s := by constructor <;> rfl

theorem trans {s t u : State} (a : SameControl s t) (b : SameControl t u) : SameControl s u where
  configured := b.configured.trans a.configured
  codecSel := b.codecSel.trans a.codecSel
  logEn := b.logEn.trans a.logEn
  crc32En := b.crc32En.trans a.crc32En
  totalIn := b.totalIn.trans a.totalIn
  flushing := b.flushing.trans a.flushing
  chan := b.chan.trans a.chan
  resp := b.resp.trans a.resp
  unitReq := b.unitReq.trans a.unitReq
  result := b.result.trans a.result
  par := b.par.trans a.par

theorem ofSameInput {s t : State} (h : SameInput s t) : SameControl s t where
  configured := h.configured
  codecSel := h.codecSel
  logEn := h.logEn
  crc32En := h.crc32En
  totalIn := h.totalIn
  flushing := h.flushing
  chan := h.chan
  resp := h.resp
  unitReq := h.unitReq
  result := h.result
  par := h.par

theorem advanceBy (n : Nat) (s : State) : SameControl s (advanceBy n s) := by constructor <;> rfl

theorem gainSync (s : State) : SameControl s (gainSync s) := by constructor <;> rfl

theorem resync (w : Warning) (s : State) : SameControl s (resync w s) :=
  trans (ofSameInput (SameInput.warn w 0 .absent s)) (by constructor <;> rfl)

theorem acceptUnit (h : UnitHeader) (c : Bool) (s : State) : SameControl s (acceptUnit h c s) := by
  cases h
  · exact trans (ofSameInput (SameInput.emitFrame _ _ _ _ s)) (advanceBy _ _)
  · exact trans (ofSameInput (SameInput.emitFrame _ _ _ _ s)) (advanceBy _ _)
  · exact trans (ofSameInput (SameInput.pageEffects _ _ s)) (advanceBy _ _)

theorem acceptTruncated (h : UnitHeader) (s : State) : SameControl s (acceptTruncated h s) := by
  cases h
  · exact trans (ofSameInput (SameInput.emitFrame _ _ _ _ s)) (advanceBy _ _)
  · exact trans (ofSameInput (SameInput.emitFrame _ _ _ _ s)) (advanceBy _ _)
  · unfold Machine.acceptTruncated truncatedPage
    simp only
    split
    · exact advanceBy _ _
    · exact trans (ofSameInput (SameInput.emit _ s)) (advanceBy _ _)

theorem acceptFlac (h : FlacHeader) (p : Nat) (c : Bool) (s : State) :
    SameControl s (acceptFlac h p c s) := by
  unfold Machine.acceptFlac
  simp only
  split
  · exact trans (gainSync s) (trans (ofSameInput (SameInput.emitFrame _ _ _ _ _)) (advanceBy _ _))
  · exact trans (ofSameInput (SameInput.emitFrame _ _ _ _ _)) (advanceBy _ _)

end SameControl

/-- A decoder at an offset writes lastKey alone. -/
theorem decodeAt_state (off : Nat) (s : State) : ∃ k, (decodeAt off s).2 = { s with lastKey := k } := by
  unfold decodeAt
  split
  · exact decodeMpeg_state _ s
  · exact decodeAdts_state _ s
  · exact ⟨s.lastKey, rfl⟩

/-- An attempt that goes on has the decoder's answer and state; one that suspends met a Need while not
flushing, and asks for the bytes short of it. -/
theorem orSuspend_cases {α : Type} (off : Nat) (r : DecodeResult α × State) :
    (orSuspend off r = .value r.1 r.2 ∧ (r.2.flushing = true ∨ ∀ k, r.1 ≠ .need k))
      ∨ ∃ k, r.1 = .need k ∧ r.2.flushing = false ∧ orSuspend off r = .suspend (off + k - r.2.buf.length) := by
  obtain ⟨d, t⟩ := r
  cases d with
  | need k =>
    cases hf : t.flushing
    · exact .inr ⟨k, rfl, rfl, by simp [orSuspend, hf]⟩
    · exact .inl ⟨by simp [orSuspend, hf], .inl rfl⟩
  | parsed h => exact .inl ⟨rfl, .inr (by simp)⟩
  | invalid => exact .inl ⟨rfl, .inr (by simp)⟩

/-- The value of an attempt at an offset leaves the input. -/
theorem orSuspend_decodeAt (off : Nat) (s t : State) (d : DecodeResult UnitHeader)
    (h : orSuspend off (decodeAt off s) = .value d t) :
    d = (decodeAt off s).1 ∧ t = (decodeAt off s).2 ∧ SameInput s t := by
  obtain ⟨k, hk⟩ := decodeAt_state off s
  rcases orSuspend_cases off (decodeAt off s) with ⟨e, -⟩ | ⟨n, -, -, e⟩
  · rw [e] at h; cases h
    exact ⟨rfl, rfl, by rw [hk]; constructor <;> rfl⟩
  · rw [e] at h; cases h

theorem orSuspend_decodeFlac (off : Nat) (b : Bytes) (si : Option StreamInfo) (s t : State)
    (d : DecodeResult FlacHeader) (h : orSuspend off (decodeFlac b si s) = .value d t) :
    d = (decodeFlac b si s).1 ∧ t = (decodeFlac b si s).2 ∧ SameInput s t := by
  have hk := SameInput.decodeFlac b si s
  rcases orSuspend_cases off (decodeFlac b si s) with ⟨e, -⟩ | ⟨n, -, -, e⟩
  · rw [e] at h; cases h
    exact ⟨rfl, rfl, hk⟩
  · rw [e] at h; cases h

/-- The footer scan reads only (R150). -/
theorem flacScanFrom_sameInput (tries p : Nat) (rest : Bytes) (s t : State) (r : ScanResult)
    (h : flacScanFrom tries p rest s = .value r t) : SameInput s t := by
  induction tries generalizing p rest s with
  | zero => cases h; exact SameInput.refl _
  | succ n ih =>
    unfold flacScanFrom at h
    split at h
    · cases h; exact SameInput.refl _
    split at h
    · cases h; exact SameInput.refl _
    split at h
    · split at h
      · exact ih _ _ _ h
      · cases h
    split at h
    · exact ih _ _ _ h
    split at h
    · exact ih _ _ _ h
    split at h
    · cases h
    · next e => cases h; exact (orSuspend_decodeFlac _ _ _ _ _ _ e).2.2
    · next e => cases h; exact (orSuspend_decodeFlac _ _ _ _ _ _ e).2.2
    · next e => exact (orSuspend_decodeFlac _ _ _ _ _ _ e).2.2.trans (ih _ _ _ h)

theorem fixedStep_sameControl (s t : State) (h : fixedStep s = .committed t) : SameControl s t := by
  have confirm : ∀ (u : UnitHeader) (s t : State), confirmUnit u s = .committed t → SameControl s t := by
    intro u s t h
    unfold confirmUnit at h
    split at h
    · cases h
    · next e =>
      have hi := SameControl.ofSameInput (orSuspend_decodeAt _ _ _ _ e).2.2
      split at h
      · cases h; exact hi.trans (SameControl.acceptTruncated _ _)
      · cases h; exact hi.trans (SameControl.acceptUnit _ _ _)
    · next e =>
      cases h
      exact (SameControl.ofSameInput (orSuspend_decodeAt _ _ _ _ e).2.2).trans (SameControl.resync _ _)
    · next e =>
      cases h
      exact (SameControl.ofSameInput (orSuspend_decodeAt _ _ _ _ e).2.2).trans
        ((SameControl.gainSync _).trans (SameControl.acceptUnit _ _ _))
  unfold fixedStep at h
  split at h
  · cases h
  · next e =>
    have hi := SameControl.ofSameInput (orSuspend_decodeAt _ _ _ _ e).2.2
    split at h
    · exact hi.trans (confirm _ _ _ h)
    · unfold syncedUnit at h
      split at h
      · split at h
        · cases h; exact hi.trans (SameControl.acceptTruncated _ _)
        · cases h
      · cases h; exact hi.trans (SameControl.acceptUnit _ _ _)
  · next e =>
    have hi := SameControl.ofSameInput (orSuspend_decodeAt _ _ _ _ e).2.2
    split at h <;> cases h
    · exact hi.trans (SameControl.advanceBy _ _)
    · exact hi.trans (SameControl.resync _ _)

theorem flacStep_sameControl (s t : State) (h : flacStep s = .committed t) : SameControl s t := by
  unfold flacStep at h
  split at h
  · cases h
  · next e =>
    have hi := SameControl.ofSameInput (orSuspend_decodeFlac _ _ _ _ _ _ e).2.2
    split at h
    · cases h
    · next e' =>
      cases h
      exact (hi.trans (.ofSameInput (flacScanFrom_sameInput _ _ _ _ _ _ e'))).trans
        (SameControl.resync _ _)
    · next e' =>
      cases h
      exact (hi.trans (.ofSameInput (flacScanFrom_sameInput _ _ _ _ _ _ e'))).trans
        (SameControl.acceptFlac _ _ _ _)
  · next e =>
    have hi := SameControl.ofSameInput (orSuspend_decodeFlac _ _ _ _ _ _ e).2.2
    split at h <;> cases h
    · exact hi.trans (SameControl.advanceBy _ _)
    · exact hi.trans (SameControl.resync _ _)

/-- A committed micro-step leaves the configuration, the flush bit, the input count and the host's side. -/
theorem microStep_sameControl (s t : State) (h : microStep s = .committed t) : SameControl s t := by
  unfold microStep at h
  split at h
  · cases h
  · split at h
    · exact flacStep_sameControl s t h
    · exact fixedStep_sameControl s t h

/-- A micro-step completes a flush exactly when it finds the flush bit set and the buffer empty. -/
theorem microStep_flushed (s t : State) (h : microStep s = .flushed t) :
    s.flushing = true ∧ s.buf = [] ∧ t = flushComplete s := by
  have noFixed : ∀ s t, fixedStep s ≠ .flushed t := by
    intro s t h
    unfold fixedStep at h
    split at h
    · cases h
    · split at h
      · unfold confirmUnit at h
        split at h
        · cases h
        · split at h <;> cases h
        · cases h
        · cases h
      · unfold syncedUnit at h
        split at h
        · split at h <;> cases h
        · cases h
    · split at h <;> cases h
  have noFlac : ∀ s t, flacStep s ≠ .flushed t := by
    intro s t h
    unfold flacStep at h
    split at h
    · cases h
    · split at h <;> cases h
    · split at h <;> cases h
  unfold microStep at h
  split at h
  · next c => cases h; exact ⟨c.1, c.2, rfl⟩
  · split at h
    · exact absurd h (noFlac s t)
    · exact absurd h (noFixed s t)

end Sys2Proof.Machine
end

