-- ==== Sys2Proof/Laws/Commands.lean ====
section
/-! SUPPORT. What a command can do: the ways PULL ends, and what a response writes. -/

namespace Sys2Proof.Machine

@[simp] theorem respond_eq (r : Response) (s : State) :
    respond r s = .next { s with resp := some r } := rfl

@[simp] theorem raiseError_eq (e : ErrorCode) (s : State) :
    raiseError e s = .next { s with resp := some (.err e) } := rfl

@[simp] theorem unitReturns_eq (r : UnitResult) (s : State) :
    unitReturns r s = .next { s with result := r } := rfl

@[simp] theorem packetReturns_eq (r : PacketResult × State) :
    packetReturns r = .next { r.2 with result := .packet r.1 } := rfl

/-- How PULL ends: at a state reached by committed micro-steps it returns the queue's head, or the NEED of a
suspended micro-step, or END (R78). P is any property the committed micro-steps keep. -/
theorem pullLoop_next {P : State → Prop}
    (keep : ∀ s t, P s → s.outQ = [] → microStep s = .committed t → P t)
    (turns : Nat) (s t : State) (hs : P s) (h : pullLoop turns s = .next t) :
    ∃ u, P u ∧
      ((∃ e rest, u.outQ = e :: rest ∧ t = { u with outQ := rest, resp := some (.event e) })
        ∨ (∃ n, u.outQ = [] ∧ microStep u = .suspend n ∧ t = { u with resp := some (.need n) })
        ∨ (∃ v, u.outQ = [] ∧ microStep u = .flushed v ∧ t = { v with resp := some .finished })) := by
  induction turns generalizing s with
  | zero => cases h
  | succ n ih =>
    unfold pullLoop at h
    split at h
    · next e rest hq =>
      cases h
      exact ⟨s, hs, .inl ⟨e, rest, hq, rfl⟩⟩
    · next hq =>
      split at h
      · next k hm => cases h; exact ⟨s, hs, .inr (.inl ⟨k, hq, hm, rfl⟩)⟩
      · next v hm => cases h; exact ⟨s, hs, .inr (.inr ⟨v, hq, hm, rfl⟩)⟩
      · next v hm => exact ih v (keep s v hs hq hm) h

/-- PULL's loop never refuses. -/
theorem pullLoop_not_refused (turns : Nat) (s : State) (r : Refusal) :
    pullLoop turns s ≠ .refused r := by
  induction turns generalizing s with
  | zero => intro h; cases h
  | succ n ih =>
    intro h
    unfold pullLoop at h
    split at h
    · cases h
    · split at h
      · cases h
      · cases h
      · exact ih _ h

end Sys2Proof.Machine
end

