-- ==== Sys2Proof/Laws/PerInstr.lean ====
section
/-! SUPPORT. One lemma per instruction: a host command is encoded on the command channel, at least one word
long, and every other row is a request on a unit's port (R56, R70, R71). -/

namespace Sys2Proof.Laws

/-- The rows a host can issue, R56. -/
def hostCommand : Instr → Bool
  | .config _ _ _ | .push _ | .pull | .flush | .getcodec | .rdreg _ => true
  | .mpegHdr _ | .adtsHdr _ | .flacHdr _ | .oggPage _ | .opusId _ | .opusTags _ | .opusToc _
  | .vorbisId _ | .vorbisComment _ | .vorbisSetup _ | .vorbisAudio _ | .oggflacId _
  | .skeletonFishead _ | .skeletonFisbone _ | .skeletonIndex _ | .crc8 _ | .crc16 _ | .crc32 _
  | .append _ | .require _ _ | .advance _ | .cacheLookup _ | .cacheStore _ _ _ | .cacheEnable
  | .cacheReset => false

/-- Where the instruction's encoding stands. -/
def EncodedPlace.Statement (i : Instr) : Prop :=
  match encode i with
  | .channel b => hostCommand i = true ∧ 4 ≤ b.length
  | .unit _ => hostCommand i = false

theorem EncodedPlace.config (a : BitVec 3) (b c : Bool) :
    EncodedPlace.Statement (.config a b c) := by
  simp [Statement, encode, hostCommand, wordBytes]

theorem EncodedPlace.push (a : Bytes) :
    EncodedPlace.Statement (.push a) := by
  simp [Statement, encode, hostCommand, wordBytes]

theorem EncodedPlace.pull :
    EncodedPlace.Statement (.pull) := by
  simp [Statement, encode, hostCommand, wordBytes]

theorem EncodedPlace.flush :
    EncodedPlace.Statement (.flush) := by
  simp [Statement, encode, hostCommand, wordBytes]

theorem EncodedPlace.getcodec :
    EncodedPlace.Statement (.getcodec) := by
  simp [Statement, encode, hostCommand, wordBytes]

theorem EncodedPlace.rdreg (a : Byte) :
    EncodedPlace.Statement (.rdreg a) := by
  simp [Statement, encode, hostCommand, wordBytes]

theorem EncodedPlace.mpegHdr (a : Bytes) :
    EncodedPlace.Statement (.mpegHdr a) := by
  rfl

theorem EncodedPlace.adtsHdr (a : Bytes) :
    EncodedPlace.Statement (.adtsHdr a) := by
  rfl

theorem EncodedPlace.flacHdr (a : Bytes) :
    EncodedPlace.Statement (.flacHdr a) := by
  rfl

theorem EncodedPlace.oggPage (a : Bytes) :
    EncodedPlace.Statement (.oggPage a) := by
  rfl

theorem EncodedPlace.opusId (a : Bytes) :
    EncodedPlace.Statement (.opusId a) := by
  rfl

theorem EncodedPlace.opusTags (a : Bytes) :
    EncodedPlace.Statement (.opusTags a) := by
  rfl

theorem EncodedPlace.opusToc (a : Bytes) :
    EncodedPlace.Statement (.opusToc a) := by
  rfl

theorem EncodedPlace.vorbisId (a : Bytes) :
    EncodedPlace.Statement (.vorbisId a) := by
  rfl

theorem EncodedPlace.vorbisComment (a : Bytes) :
    EncodedPlace.Statement (.vorbisComment a) := by
  rfl

theorem EncodedPlace.vorbisSetup (a : Bytes) :
    EncodedPlace.Statement (.vorbisSetup a) := by
  rfl

theorem EncodedPlace.vorbisAudio (a : Bytes) :
    EncodedPlace.Statement (.vorbisAudio a) := by
  rfl

theorem EncodedPlace.oggflacId (a : Bytes) :
    EncodedPlace.Statement (.oggflacId a) := by
  rfl

theorem EncodedPlace.skeletonFishead (a : Bytes) :
    EncodedPlace.Statement (.skeletonFishead a) := by
  rfl

theorem EncodedPlace.skeletonFisbone (a : Bytes) :
    EncodedPlace.Statement (.skeletonFisbone a) := by
  rfl

theorem EncodedPlace.skeletonIndex (a : Bytes) :
    EncodedPlace.Statement (.skeletonIndex a) := by
  rfl

theorem EncodedPlace.crc8 (a : Bytes) :
    EncodedPlace.Statement (.crc8 a) := by
  rfl

theorem EncodedPlace.crc16 (a : Bytes) :
    EncodedPlace.Statement (.crc16 a) := by
  rfl

theorem EncodedPlace.crc32 (a : Bytes) :
    EncodedPlace.Statement (.crc32 a) := by
  rfl

theorem EncodedPlace.append (a : Bytes) :
    EncodedPlace.Statement (.append a) := by
  rfl

theorem EncodedPlace.require (a b : Nat) :
    EncodedPlace.Statement (.require a b) := by
  rfl

theorem EncodedPlace.advance (a : Nat) :
    EncodedPlace.Statement (.advance a) := by
  rfl

theorem EncodedPlace.cacheLookup (a : Bytes) :
    EncodedPlace.Statement (.cacheLookup a) := by
  rfl

theorem EncodedPlace.cacheStore (a : Bytes) (b : Header) (c : Identity) :
    EncodedPlace.Statement (.cacheStore a b c) := by
  rfl

theorem EncodedPlace.cacheEnable :
    EncodedPlace.Statement (.cacheEnable) := by
  rfl

theorem EncodedPlace.cacheReset :
    EncodedPlace.Statement (.cacheReset) := by
  rfl

end Sys2Proof.Laws
end

