-- ==== Sys2Proof/Tests/Slice0.lean ====
section
/-! SUPPORT. Tests: the well-formedness checks, a written word of every row, at most two small tests per
instruction (expected values from spec/43, 47 and 95), and a witness for the hypotheses of each statement. -/

namespace Sys2Proof.Tests

open Sys2Proof Sys2Proof.Machine

set_option Elab.async false

/-! ### Helpers -/

def outState : Outcome → Option State
  | .next t => some t
  | _ => none

def outResp (o : Outcome) : Option Response :=
  (outState o).bind (·.resp)

def outResult (o : Outcome) : Option UnitResult :=
  (outState o).map (·.result)

def committedState : MicroOutcome → Option State
  | .committed t => some t
  | _ => none

theorem next_of (o : Outcome) (p : State → Bool) (h : (outState o).any p = true) :
    ∃ t, o = .next t ∧ p t = true := by
  cases o with
  | next t => exact ⟨t, rfl, h⟩
  | fault _ => cases h
  | refused _ => cases h

theorem committed_of (o : MicroOutcome) (p : State → Bool) (h : (committedState o).any p = true) :
    ∃ t, o = .committed t ∧ p t = true := by
  cases o with
  | committed t => exact ⟨t, rfl, h⟩
  | suspend _ => cases h
  | flushed _ => cases h

/-- Configured for a format, the given bytes buffered, nothing queued. -/
def ready (sel : BitVec 3) (b : Bytes) : State :=
  { configure sel true true State.reset with buf := b, totalIn := BitVec.ofNat 64 b.length, outQ := [] }

def flushingReady (sel : BitVec 3) (b : Bytes) : State :=
  { ready sel b with flushing := true }

def zeros (n : Nat) : Bytes := List.replicate n 0

/-- A 24-byte MPEG frame, R137's fourth header. -/
def mpegFrame : Bytes := [0xFF, 0xF3, 0x14, 0xC0] ++ zeros 20

/-- A 20-byte ADTS frame. -/
def adtsFrame : Bytes := [0xFF, 0xF1, 0x50, 0x80, 0x02, 0x9F, 0xFC] ++ zeros 13

/-- A 12-byte FLAC frame: R139's header, four bytes, CRC-16. -/
def flacFrame : Bytes := [0xFF, 0xF8, 0xC9, 0x18, 0x00, 0xC2, 0, 0, 0, 0, 0xB4, 0x2E]

/-- The Opus identification packet of R220. -/
def opusHead : Bytes := Pattern.opusHead ++ [1, 2, 0x38, 1, 0x80, 0xBB, 0, 0, 0, 0, 0]

/-- The Vorbis identification packet of R231. -/
def vorbisHead : Bytes :=
  Pattern.vorbis 1 ++ [0, 0, 0, 0, 2, 0x44, 0xAC, 0, 0, 0, 0, 0, 0, 0, 0xF4, 1, 0, 0, 0, 0, 0, 0xB8]

/-- The Ogg FLAC identification packet of R232. -/
def oggFlacHead : Bytes :=
  Pattern.oggFlac ++ [1, 0, 0, 1, 0x66, 0x4C, 0x61, 0x43, 0, 0, 0, 0x22,
    0x10, 0, 0x10, 0, 0, 0, 0, 0, 0, 0, 0x0A, 0xC4, 0x42, 0xF0, 0, 0, 0, 0] ++ zeros 16

/-- An Ogg page header with sequence number seq and a segment table. -/
def pageHead (seq : Byte) (table : Bytes) : Bytes :=
  Pattern.oggS ++ [0, 0] ++ zeros 8 ++ [1, 0, 0, 0, seq, 0, 0, 0, 0, 0, 0, 0, BitVec.ofNat 8 table.length] ++ table

def opusReady : State :=
  { ready 3 [] with codec := .opus, idHeader := (decodeOpusId opusHead).map .opus, idRaw := some opusHead }

def vorbisReady : State :=
  { ready 3 [] with
    codec := .vorbis, idHeader := (decodeVorbisId vorbisHead).map .vorbis, idRaw := some vorbisHead,
    vorbisState := some 0 }

/-- SYNCED after one MPEG frame, its header cached, with what follows it still buffered. -/
def synced (rest : Bytes) : State :=
  { (committedState (microStep (ready 0 (mpegFrame ++ mpegFrame ++ rest)))).getD State.reset with outQ := [] }

/-! ### Well-formedness: each check refuses an ill-formed term -/

theorem test_wf_push_too_long (d : Bytes) (h : d.length = 2 ^ 28) : (Instr.push d).wellFormed = false := by
  simp [Instr.wellFormed, h]

theorem test_wf_headers :
    (Instr.mpegHdr [0xFF, 0xDB]).wellFormed = false ∧ (Instr.adtsHdr [0xFF, 0xF3]).wellFormed = false ∧
    (Instr.flacHdr [0xFF, 0xFA]).wellFormed = false ∧ (Instr.oggPage [0x4F, 0x67, 0x67]).wellFormed = false := by
  decide

theorem test_wf_opus :
    (Instr.opusId [0x4F, 0x70]).wellFormed = false ∧ (Instr.opusTags Pattern.opusHead).wellFormed = false ∧
    (Instr.opusToc Pattern.opusHead).wellFormed = false ∧ (Instr.opusToc Pattern.opusTags).wellFormed = false := by
  decide

theorem test_wf_vorbis :
    (Instr.vorbisId (Pattern.vorbis 3)).wellFormed = false ∧
    (Instr.vorbisComment (Pattern.vorbis 1)).wellFormed = false ∧
    (Instr.vorbisSetup (Pattern.vorbis 1)).wellFormed = false ∧
    (Instr.vorbisAudio []).wellFormed = false ∧ (Instr.vorbisAudio [1]).wellFormed = false := by
  decide

theorem test_wf_flac_and_skeleton :
    (Instr.oggflacId [0x7F, 0x46]).wellFormed = false ∧ (Instr.skeletonFishead Pattern.fisbone).wellFormed = false ∧
    (Instr.skeletonFisbone Pattern.fishead).wellFormed = false ∧
    (Instr.skeletonIndex Pattern.fishead).wellFormed = false := by
  decide

/-! ### Decoding: a word of every row, written out from R56, R62, R65 and R71 -/

theorem test_decode_commands :
    decodeChannel [0x10, 0, 0, 0x1A] = .command (.config 2 true true) [] ∧
    decodeChannel [0x20, 0, 0, 2, 0xFF, 0xFB, 0x30] = .command (.push [0xFF, 0xFB]) [0x30] ∧
    decodeChannel [0x30, 0, 0, 0] = .command .pull [] ∧
    decodeChannel [0x40, 0, 0, 0] = .command .flush [] ∧
    decodeChannel [0x50, 0, 0, 0] = .command .getcodec [] ∧
    decodeChannel [0x60, 0, 0, 0x0C] = .command (.rdreg 12) [] := by
  decide

theorem test_decode_headers :
    (decodeUnit ⟨.mpeg, [0xFF, 0xFB, 0x14, 0xC0], default⟩).toOption = some (.mpegHdr [0xFF, 0xFB, 0x14, 0xC0]) ∧
    (decodeUnit ⟨.adts, [0xFF, 0xF1], default⟩).toOption = some (.adtsHdr [0xFF, 0xF1]) ∧
    (decodeUnit ⟨.flac, [0xFF, 0xF9], default⟩).toOption = some (.flacHdr [0xFF, 0xF9]) ∧
    (decodeUnit ⟨.oggPage, [0x4F, 0x67, 0x67, 0x53], default⟩).toOption
      = some (.oggPage [0x4F, 0x67, 0x67, 0x53]) := by
  decide

theorem test_decode_packets :
    (decodeUnit ⟨.opus, opusHead, default⟩).toOption = some (.opusId opusHead) ∧
    (decodeUnit ⟨.opus, [0x4F, 0x70, 0x75, 0x73, 0x54, 0x61, 0x67, 0x73], default⟩).toOption
      = some (.opusTags [0x4F, 0x70, 0x75, 0x73, 0x54, 0x61, 0x67, 0x73]) ∧
    (decodeUnit ⟨.opus, [0xFC, 0, 0], default⟩).toOption = some (.opusToc [0xFC, 0, 0]) ∧
    (decodeUnit ⟨.vorbis, [1, 0x76, 0x6F, 0x72, 0x62, 0x69, 0x73], default⟩).toOption
      = some (.vorbisId [1, 0x76, 0x6F, 0x72, 0x62, 0x69, 0x73]) ∧
    (decodeUnit ⟨.vorbis, [3, 0x76, 0x6F, 0x72, 0x62, 0x69, 0x73], default⟩).toOption
      = some (.vorbisComment [3, 0x76, 0x6F, 0x72, 0x62, 0x69, 0x73]) ∧
    (decodeUnit ⟨.vorbis, [5, 0x76, 0x6F, 0x72, 0x62, 0x69, 0x73], default⟩).toOption
      = some (.vorbisSetup [5, 0x76, 0x6F, 0x72, 0x62, 0x69, 0x73]) ∧
    (decodeUnit ⟨.vorbis, [0x84], default⟩).toOption = some (.vorbisAudio [0x84]) ∧
    (decodeUnit ⟨.oggFlac, [0x7F, 0x46, 0x4C, 0x41, 0x43], default⟩).toOption
      = some (.oggflacId [0x7F, 0x46, 0x4C, 0x41, 0x43]) := by
  decide

theorem test_decode_skeleton :
    (decodeUnit ⟨.skeleton, [0x66, 0x69, 0x73, 0x68, 0x65, 0x61, 0x64, 0], default⟩).toOption
      = some (.skeletonFishead [0x66, 0x69, 0x73, 0x68, 0x65, 0x61, 0x64, 0]) ∧
    (decodeUnit ⟨.skeleton, [0x66, 0x69, 0x73, 0x62, 0x6F, 0x6E, 0x65, 0], default⟩).toOption
      = some (.skeletonFisbone [0x66, 0x69, 0x73, 0x62, 0x6F, 0x6E, 0x65, 0]) ∧
    (decodeUnit ⟨.skeleton, [0x69, 0x6E, 0x64, 0x65, 0x78, 0, 0, 0], default⟩).toOption
      = some (.skeletonIndex [0x69, 0x6E, 0x64, 0x65, 0x78, 0, 0, 0]) := by
  decide

theorem test_decode_engines :
    [0x00, 0x01, 0x02, 0x10, 0x11, 0x12, 0x20, 0x22, 0x23, 0x03].map
        (fun sel => (decodeUnit ⟨.engine, [sel], { (default : EngineArgs) with seq := [9], n := 4, off := 5 }⟩).toOption)
      = [some (.crc8 [9]), some (.crc16 [9]), some (.crc32 [9]), some (.append [9]), some (.require 4 5),
         some (.advance 4), some (.cacheLookup [9]), some .cacheEnable, some .cacheReset, none] := by
  decide

theorem test_decode_cache_store :
    (decodeUnit ⟨.engine, [0x21], { (default : EngineArgs) with seq := [9] }⟩).toOption
      = some (.cacheStore [9] default default) := by
  decide

theorem test_table_words :
    decodeTableWord 32 0x10000000 = some (.config 0 false false) ∧
    decodeTableWord 8 0x11 = some (.require 0 0) ∧
    decodeTableWord 16 0xFFF8 = some (.flacHdr ([0xFF, 0xF8] ++ zeros 14)) := by
  decide

/-- The host's placing of a table word is what the next step runs. -/
theorem test_fetch_word_runs :
    (outResp (step (State.reset.withFetchWord 32 0x10000000)) = some .ok) ∧
    (outResp (step (State.reset.withFetchWord 32 0x70000000)) = some (.err .badCmd)) := by
  decide +kernel

/-! ### Meanings -/

/-- CM-4, CM-7. -/
theorem test_config_mpeg : (outState (exec (.config 0 false true) State.reset)).any (fun t =>
    t.resp == some .ok && t.outQ == [.codec .mpeg] && t.crc32En) = true := by decide +kernel

theorem test_config_unsupported :
    outResp (exec (.config 5 false false) (ready 0 [1])) = some (.err .unsupported) := by decide +kernel

/-- R77's example. -/
theorem test_push : outResp (exec (.push [0xFF, 0xFB, 0x14, 0xC0]) (ready 0 [])) = some (.accepted 4) := by
  decide +kernel

theorem test_push_full : outResp (exec (.push [1, 2, 3])
    { ready 0 [7] with par := { Config.defaultParams with bufCap := 3 } }) = some (.accepted 2) := by
  decide +kernel

/-- R187 and R164: the first event of two frames is CODEC_HEADER; one frame alone suspends. -/
theorem test_pull_first_event :
    ((outResp (exec .pull (ready 0 (mpegFrame ++ mpegFrame)))).any fun r =>
      match r with
      | .event (.codecHeader (.mpeg h)) => h.frameLength == 24
      | _ => false) = true := by decide +kernel

theorem test_pull_need : outResp (exec .pull (ready 0 mpegFrame)) = some (.need 4) := by decide +kernel

theorem test_flush : (outState (exec .flush (ready 0 []))).any (fun t =>
    t.flushing && t.resp == some .ok) = true := by decide +kernel

/-- CM-6. -/
theorem test_getcodec : outResp (exec .getcodec (ready 3 [])) = some (.codec .unset) := by decide +kernel

/-- CM-5. -/
theorem test_rdreg_ctrl_status :
    outResp (exec (.rdreg 0) (configure 2 true true State.reset)) = some (.reg 0x1A) ∧
    outResp (exec (.rdreg 1) (configure 2 true true State.reset)) = some (.reg 0x61) := by decide +kernel

theorem test_rdreg_reserved : outResp (exec (.rdreg 13) State.reset) = some (.err .badReg) := by decide +kernel

/-- R137: frame lengths 96, 418 and 24, and 96 for Layer II. -/
theorem test_mpeg_lengths :
    [[0xFF, 0xFB, 0x14, 0xC0], [0xFF, 0xFB, 0x92, 0x64], [0xFF, 0xF3, 0x14, 0xC0], [0xFF, 0xFD, 0x14, 0xC0]].map
      (fun b => (mpegFields b).map (·.frameLength)) = [some 96, some 418, some 24, some 96] := by decide +kernel

/-- R137: the reserved codes. -/
theorem test_mpeg_invalid :
    [[0xFF, 0xEB, 0x14, 0xC0], [0xFF, 0xF9, 0x14, 0xC0], [0xFF, 0xFB, 0xF4, 0xC0], [0xFF, 0xFB, 0x04, 0xC0],
      [0xFF, 0xFB, 0x1C, 0xC0], [0xFF, 0xFB, 0x14, 0xC2], [0xFF, 0xDB, 0x14, 0xC0]].all
      (fun b => outResult (exec (.mpegHdr b) State.reset) == some (.mpeg .invalid)) = true := by decide +kernel

/-- R138. -/
theorem test_adts_fields :
    ((outResult (exec (.adtsHdr [0xFF, 0xF1, 0x50, 0x80, 0x2E, 0x7F, 0xFC]) State.reset)).any fun r =>
      match r with
      | .adts (.parsed h) => h.frameLength == 371 && h.sampleRate == 44100 && h.bufferFullness == 0x7FF
          && h.audioSpecificConfig == [0x12, 0x10]
      | _ => false) = true := by decide +kernel

theorem test_adts_need_and_invalid :
    outResult (exec (.adtsHdr [0xFF, 0xF0, 0x50, 0x80, 0x2E, 0x7F, 0xFC]) State.reset) = some (.adts (.need 9)) ∧
    outResult (exec (.adtsHdr [0xFF, 0xF1, 0x50, 0x80, 0x00, 0xDF, 0xFC]) State.reset)
      = some (.adts .invalid) := by decide +kernel

/-- R139. -/
theorem test_flac_fields :
    ((outResult (exec (.flacHdr [0xFF, 0xF8, 0xC9, 0x18, 0x01, 0xC5]) State.reset)).any fun r =>
      match r with
      | .flac (.parsed h) => h.frameNumber == some 1 && h.blockSize == 4096 && h.bitDepth == 16
      | _ => false) = true := by decide +kernel

theorem test_flac_need_and_invalid :
    outResult (exec (.flacHdr [0xFF, 0xF8, 0xC9, 0x18]) State.reset) = some (.flac (.need 5)) ∧
    outResult (exec (.flacHdr [0xFF, 0xF8, 0xC9, 0x18, 0x00, 0xC3]) State.reset) = some (.flac .invalid) := by
  decide +kernel

/-- R192. -/
theorem test_ogg_page :
    ((outResult (exec (.oggPage (pageHead 0 [19])) State.reset)).any fun r =>
      match r with
      | .page (.parsed h) => h.pageLength == 47 && h.serialNumber == 1
      | _ => false) = true := by decide +kernel

theorem test_ogg_need :
    outResult (exec (.oggPage ((pageHead 0 [1, 2]).take 27)) State.reset) = some (.page (.need 29)) := by
  decide +kernel

/-- R220. -/
theorem test_opus_id : (outState (exec (.opusId opusHead) State.reset)).any (fun t =>
    match t.idHeader with
    | some (.opus i) => i.preSkip == 312 && i.inputSampleRate == 48000 && i.channelMapping == [0, 1]
    | _ => false) = true := by decide +kernel

theorem test_opus_tags :
    outResult (exec (.opusTags Pattern.opusTags) opusReady) = some (.packet .consumed) := by decide +kernel

/-- R220: 960 samples for FC, 2880 for 0B 03, 1920 for 79; 0B 07 is W5. -/
theorem test_opus_toc :
    ([[0xFC, 0, 0], [0x0B, 3], [0x79]] : List Bytes).map (fun p => (outResult (exec (.opusToc p) opusReady)).bind fun r =>
      match r with
      | .packet (.frame (.opus h)) => some h.samples
      | _ => none) = [some 960, some 2880, some 1920] := by decide +kernel

theorem test_opus_toc_bad : (outState (exec (.opusToc [0x0B, 7]) opusReady)).any (fun t =>
    t.outQ == [.warn .badPacket 0 (.length 2)]) = true := by decide +kernel

/-- R231. -/
theorem test_vorbis_id : (outState (exec (.vorbisId vorbisHead) State.reset)).any (fun t =>
    match t.idHeader with
    | some (.vorbis i) => i.sampleRate == 44100 && i.bitrateNominal == 128000 && i.blocksize0 == 256
        && i.blocksize1 == 2048
    | _ => false) = true := by decide +kernel

theorem test_vorbis_comment :
    outResult (exec (.vorbisComment (Pattern.vorbis 3)) vorbisReady) = some (.packet .consumed) := by
  decide +kernel

theorem test_vorbis_setup_first_only :
    (outState (exec (.vorbisSetup (Pattern.vorbis 5)) { vorbisReady with vorbisSetup := some [5] })).any
      (fun t => t.vorbisSetup == some [5]) = true := by decide +kernel

theorem test_vorbis_audio_without_id : (outState (exec (.vorbisAudio [0]) (ready 3 []))).any (fun t =>
    t.outQ == [.warn .badPacket 0 (.length 1)]) = true := by decide +kernel

/-- R232. -/
theorem test_oggflac_id : (outState (exec (.oggflacId oggFlacHead) State.reset)).any (fun t =>
    match t.streamInfo with
    | some i => i.sampleRate == 44100 && i.channels == 2 && i.bitsPerSample == 16 && i.maxBlockSize == 4096
    | _ => false) = true := by decide +kernel

theorem test_skeleton :
    outResult (exec (.skeletonFishead Pattern.fishead) (ready 3 [])) = some (.packet .ignored) ∧
    outResult (exec (.skeletonFisbone Pattern.fisbone) (ready 3 [])) = some (.packet .ignored) ∧
    outResult (exec (.skeletonIndex Pattern.index) (ready 3 [])) = some (.packet .ignored) := by decide +kernel

/-- The ASCII digits "123456789". -/
def digits : Bytes := [0x31, 0x32, 0x33, 0x34, 0x35, 0x36, 0x37, 0x38, 0x39]

/-- R95, R96, R99: the check values. -/
theorem test_crc_check_values :
    outResult (exec (.crc8 digits) State.reset) = some (.crc8 0xF4) ∧
    outResult (exec (.crc16 digits) State.reset) = some (.crc16 0xFEE8) ∧
    outResult (exec (.crc32 digits) State.reset) = some (.crc32 0xCBF43926) := by decide +kernel

/-- R87, R88, R89: the examples. -/
theorem test_append : (outState (exec (.append [0xFB, 0x14]) (ready 0 [0xFF]))).any (fun t =>
    t.buf == [0xFF, 0xFB, 0x14] && t.totalIn == 3) = true := by decide +kernel

theorem test_require : outResult (exec (.require 4 0) (ready 0 [1, 2, 3])) = some (.suspended 1) := by
  decide +kernel

theorem test_advance : (outState (exec (.advance 1) { ready 0 [0x00, 0xFF, 0xFB] with pos := 10 })).any
    (fun t => t.buf == [0xFF, 0xFB] && t.pos == 11) = true := by decide +kernel

theorem test_cache_lookup : outResult (exec (.cacheLookup [1]) State.reset) = some (.lookup none) := by
  decide +kernel

theorem test_cache_store : (outState (exec (.cacheStore [1] default default) (cacheEnable State.reset))).any
    (fun t => t.cacheMap == [([1], default, default)] && t.lastKey == some [1]) = true := by decide +kernel

theorem test_cache_enable : (outState (exec .cacheEnable State.reset)).any (fun t => t.cacheEn) = true := by
  decide +kernel

theorem test_cache_reset : (outState (exec .cacheReset (synced []))).any (fun t =>
    !t.cacheEn && t.cacheMap == [] && t.headerSent) = true := by decide +kernel

/-! ### Witnesses: states and operands that meet the hypotheses of each statement, clause by clause -/

theorem test_witness_StepRunsDecodedInstruction :
    (State.reset.unitReq = none ∧
      decodeChannel ({ State.reset with chan := [0x30, 0, 0, 0] } : State).chan = .command .pull []) ∧
    (({ State.reset with unitReq := some ⟨.mpeg, [0xFF, 0xFB], default⟩ } : State).unitReq
        = some ⟨.mpeg, [0xFF, 0xFB], default⟩ ∧
      decodeUnit ⟨.mpeg, [0xFF, 0xFB], default⟩ = .ok (.mpegHdr [0xFF, 0xFB])) ∧
    decodeChannel State.reset.chan = .incomplete ∧
    (decodeUnit ⟨.mpeg, [0, 0], default⟩).toOption = none :=
  ⟨⟨rfl, by decide⟩, ⟨rfl, rfl⟩, by decide, rfl⟩

/-- R228's three kinds of Ogg FLAC packet at their least length, one decoded and one not, R221's empty and odd
packets, and a page sniffed with no codec set. -/
theorem test_witness_unmatched_packets :
    ((byteAt [7] 0).getLsbD 0 = true ∧ ¬ Pattern.vorbis 1 <+: [7] ∧ ¬ Pattern.vorbis 3 <+: [7] ∧
      ¬ Pattern.vorbis 5 <+: [7]) ∧
    (¬ Pattern.oggFlac <+: [0xFF] ∧ ¬ 2 ≤ ([0xFF] : Bytes).length) ∧
    (¬ Pattern.oggFlac <+: [0xFF, 0xF8] ∧ State.reset.idHeader = none ∧ opusReady.idHeader ≠ none) ∧
    (∃ t, step { opusReady with codec := .flac, unitReq := some ⟨.oggFlac, flacFrame, default⟩ } = .next t ∧
      (match t.result with | .packet (.frame (.flac h)) => h.blockSize == 4096 | _ => false) = true) ∧
    (∃ t, step { opusReady with codec := .flac, unitReq := some ⟨.oggFlac, [0xFF, 0xF9], default⟩ } = .next t ∧
      decide (t.outQ = [.warn .badPacket 0 (.length 2)]) = true) ∧
    State.reset.codec = .unset :=
  ⟨by decide +kernel, by decide +kernel, by decide +kernel, next_of _ _ (by decide +kernel),
    next_of _ _ (by decide +kernel), rfl⟩

/-- Both ends of the reserved opcodes and the least bit past each operand field. -/
theorem test_witness_IllegalWordIsBadCommand :
    ({ State.reset with chan := wordBytes 0#32 ++ [] } : State).chan = wordBytes 0#32 ++ [] ∧
    illegalWord 0x0#32 ∧ illegalWord 0x70000000#32 ∧ illegalWord 0xFFFFFFFF#32 ∧ illegalWord 0x10000020#32 ∧
    illegalWord 0x30000001#32 ∧ illegalWord 0x40000001#32 ∧ illegalWord 0x50000001#32 ∧
    illegalWord 0x60000100#32 := by
  refine ⟨rfl, ?_, ?_, ?_, ?_, ?_, ?_, ?_, ?_⟩ <;> (unfold illegalWord; decide)

theorem test_witness_EncodeThenDecode :
    (Instr.push []).wellFormed = true ∧ (Instr.push [1]).wellFormed = true ∧
    (Instr.rdreg 255).wellFormed = true ∧ (Instr.mpegHdr [0xFF, 0xE0]).wellFormed = true ∧
    (Instr.adtsHdr [0xFF, 0xF0]).wellFormed = true ∧ (Instr.flacHdr [0xFF, 0xF9]).wellFormed = true ∧
    (Instr.oggPage Pattern.oggS).wellFormed = true ∧ (Instr.opusId Pattern.opusHead).wellFormed = true ∧
    (Instr.opusTags Pattern.opusTags).wellFormed = true ∧ (Instr.opusToc []).wellFormed = true ∧
    (Instr.vorbisId (Pattern.vorbis 1)).wellFormed = true ∧
    (Instr.vorbisComment (Pattern.vorbis 3)).wellFormed = true ∧
    (Instr.vorbisSetup (Pattern.vorbis 5)).wellFormed = true ∧ (Instr.vorbisAudio [0]).wellFormed = true ∧
    (Instr.oggflacId Pattern.oggFlac).wellFormed = true ∧
    (Instr.skeletonFishead Pattern.fishead).wellFormed = true ∧
    (Instr.skeletonFisbone Pattern.fisbone).wellFormed = true ∧
    (Instr.skeletonIndex Pattern.index).wellFormed = true ∧ (Instr.advance 0).wellFormed = true ∧
    encode (.push [1]) = .channel [0x20, 0, 0, 1, 1] := by
  decide

theorem test_witness_DecodeThenEncode :
    decodeChannel [0x20, 0, 0, 0] = .command (.push []) [] ∧
    decodeChannel [0x20, 0, 0, 1, 0xAB, 0xCD] = .command (.push [0xAB]) [0xCD] ∧
    decodeUnit ⟨.engine, [0x23], default⟩ = .ok .cacheReset :=
  ⟨by decide, by decide, rfl⟩

theorem test_witness_ConfigBuildsTheMachine :
    (0#3).toNat < 4 ∧ (3#3).toNat < 4 ∧ 4 ≤ (4#3).toNat ∧ 4 ≤ (7#3).toNat := by decide

theorem test_witness_configured_states :
    ((ready 0 []).configured = true ∧ (ready 0 []).flushing = false) ∧ State.reset.configured = false ∧
    ((flushingReady 0 []).configured = true ∧ (flushingReady 0 []).flushing = true) := by
  decide +kernel

theorem test_witness_PullFollowsItsLoop :
    State.reset.configured = false ∧
    ((configure 0 false false State.reset).configured = true ∧
      (configure 0 false false State.reset).outQ = .codec .mpeg :: []) ∧
    ((ready 0 []).configured = true ∧ (ready 0 []).outQ = [] ∧ microStep (ready 0 []) = .suspend 4) ∧
    ((flushingReady 0 []).configured = true ∧ (flushingReady 0 []).outQ = [] ∧
      microStep (flushingReady 0 []) = .flushed (flushComplete (flushingReady 0 []))) ∧
    ((ready 0 (zeros 4)).configured = true ∧ (ready 0 (zeros 4)).outQ = [] ∧
      microStep (ready 0 (zeros 4)) = .committed (advanceBy 1 (ready 0 (zeros 4)))) ∧
    ∃ t, exec .pull (ready 0 []) = .next t ∧ decide (t.resp = some (.need 4)) = true :=
  ⟨rfl, ⟨rfl, rfl⟩, ⟨rfl, rfl, rfl⟩, ⟨rfl, rfl, rfl⟩, ⟨rfl, rfl, rfl⟩, next_of _ _ (by decide +kernel)⟩

theorem test_witness_FlushCompletionResets :
    (flushingReady 3 []).configured = true ∧ (flushingReady 3 []).flushing = true ∧
    (flushingReady 3 []).buf = [] ∧ (flushingReady 3 []).outQ = [] := by decide +kernel

theorem test_witness_RdregReadsTheMap :
    [State.reset.pos, State.reset.totalIn][0]? = some 0#64 ∧ 13 ≤ (13 : Byte).toNat ∧
    13 ≤ (255 : Byte).toNat := by decide

theorem test_witness_ErrorResponsesChangeNothing :
    (∃ t, exec .pull State.reset = .next t ∧ decide (t.resp = some (.err .notConfigured)) = true) ∧
    (∃ t, exec (.push []) (flushingReady 0 []) = .next t ∧ decide (t.resp = some (.err .flushing)) = true) ∧
    (∃ t, exec (.rdreg 13) State.reset = .next t ∧ decide (t.resp = some (.err .badReg)) = true) ∧
    (∃ t, exec (.config 4 false false) State.reset = .next t ∧
      decide (t.resp = some (.err .unsupported)) = true) ∧ ∃ b, encode .pull = .channel b :=
  ⟨next_of _ _ (by decide +kernel), next_of _ _ (by decide +kernel), next_of _ _ (by decide +kernel),
    next_of _ _ (by decide +kernel), _, rfl⟩

theorem test_witness_FooterTestIsZeroCrc16 : 2 ≤ ([0, 0] : Bytes).length ∧ footerMatches [0, 0] = true := by
  decide +kernel

theorem test_witness_CrcEnginesEqualTheirTables :
    State.reset.par.crc32Variant = .isoHdlc ∧
    ({ State.reset with par := { Config.defaultParams with crc32Variant := .other 0 } } : State).par.crc32Variant
      = .other 0 := ⟨rfl, rfl⟩

/-- The empty append, and one that fills the buffer exactly. -/
theorem test_witness_AppendAddsAtTheTail :
    State.reset.buf.length + ([] : Bytes).length ≤ State.reset.par.bufCap ∧
    (let s := { State.reset with par := { Config.defaultParams with bufCap := 1 } };
      s.buf.length + ([7] : Bytes).length ≤ s.par.bufCap) := by decide +kernel

theorem test_witness_RequireAndAdvance :
    (0 + 3 ≤ (ready 0 [1, 2, 3]).buf.length) ∧
    (1 ≤ 1 ∧ (flushingReady 0 []).buf.length < 0 + 1 ∧ (flushingReady 0 []).flushing = true) ∧
    (1 ≤ 1 ∧ (ready 0 []).buf.length < 0 + 1 ∧ (ready 0 []).flushing = false) ∧
    (1 ≤ 3 ∧ 3 ≤ (ready 0 [1, 2, 3]).buf.length) := by decide +kernel

theorem test_witness_OperandsOutsideTheDomainStop :
    (let s := { State.reset with par := { Config.defaultParams with bufCap := 0 } };
      s.par.bufCap < s.buf.length + ([7] : Bytes).length) ∧ State.reset.buf.length < 1 ∧
    (0x03 : Byte).toNat ∉ engineSelects ∧
    ({ State.reset with unitReq := some ⟨.engine, [0x03], default⟩ } : State).unitReq
      = some ⟨.engine, [0x03], default⟩ := ⟨by decide +kernel, by decide +kernel, by decide, rfl⟩

theorem test_witness_StreamBytesAreStable :
    (ready 0 [1, 2, 3]).buf.length ≤ 2 ^ 64 ∧
    (∃ t, exec (.require 3 0) (ready 0 [1, 2, 3]) = .next t ∧ decide (t.result = .satisfied) = true) ∧
    (∃ t, exec (.append [4]) (ready 0 [1, 2, 3]) = .next t ∧
      (streamByte (ready 0 [1, 2, 3]) 2).isSome = true) ∧
    (∃ t, exec (.advance 2) (ready 0 [1, 2, 3]) = .next t ∧
      decide (2 ≤ ((2 : Word64) - (ready 0 [1, 2, 3]).pos).toNat ∧
        ((1 : Word64) - (ready 0 [1, 2, 3]).pos).toNat < 2) = true) :=
  ⟨by decide +kernel, next_of _ _ (by decide +kernel),
    next_of _ (fun _ => (streamByte (ready 0 [1, 2, 3]) 2).isSome) (by decide +kernel),
    next_of _ (fun _ => decide _) (by decide +kernel)⟩

theorem test_witness_cache_operations :
    (let s := cacheStore [1] default default (cacheEnable State.reset);
      s.cacheEn = true ∧ cacheSorted s.cacheMap = true ∧ cacheFind s.cacheMap [1] = some (default, default) ∧
      cacheFind s.cacheMap [2] = none ∧ s.cacheMap.length < s.par.cacheEntries) ∧
    State.reset.cacheEn = false ∧
    (let s := { cacheEnable State.reset with par := { Config.defaultParams with cacheEntries := 0 } };
      s.cacheEn = true ∧ cacheFind s.cacheMap [1] = none ∧ s.par.cacheEntries ≤ s.cacheMap.length) := by
  decide +kernel

theorem test_witness_MpegHeaderDecodes :
    State.reset.cacheEn = false ∧ ([0xFF, 0xFB, 0x14] : Bytes).length < 4 ∧
    mpegReserved [0xFF, 0xFB, 0xF4, 0xC0] = true ∧ mpegReserved [0xFF, 0xFB, 0x14, 0xC0] = false := by
  decide +kernel

theorem test_witness_AdtsHeaderDecodes :
    ([0xFF, 0xF1, 0x50, 0x80, 0x2E, 0x7F] : Bytes).length < 7 ∧
    adtsReserved [0xFF, 0xF1, 0x50, 0x80, 0x00, 0xDF, 0xFC] = true ∧
    (adtsReserved [0xFF, 0xF0, 0x50, 0x80, 0x2E, 0x7F, 0xFC] = false ∧
      bit (byteAt [0xFF, 0xF0, 0x50, 0x80, 0x2E, 0x7F, 0xFC] 1) 0 = false) ∧
    (adtsReserved [0xFF, 0xF1, 0x50, 0x80, 0x2E, 0x7F, 0xFC] = false ∧
      bit (byteAt [0xFF, 0xF1, 0x50, 0x80, 0x2E, 0x7F, 0xFC] 1) 0 = true) ∧
    (adtsReserved [0xFF, 0xF0, 0x50, 0x80, 0x2E, 0x7F, 0xFC, 0, 0] = false) := by decide +kernel

theorem test_witness_FlacHeaderDecodes :
    flacReserved [0xFF, 0xF8, 0x09, 0x18] false = true ∧ flacReserved [0xFF, 0xF8, 0xC9, 0x18] false = false ∧
    flacCountOf (byteAt [0xFF, 0xF8, 0xC9, 0x18, 0x80] 4) = none ∧
    flacCountOf (byteAt [0xFF, 0xF8, 0xC9, 0x18, 0x00] 4) = some 1 ∧
    ([0x7F, 0xBF, 0xC0, 0xDF, 0xEF, 0xF7, 0xFB, 0xFD, 0xFE, 0xFF].map flacCountOf
      = [some 1, none, some 2, some 2, some 3, some 4, some 5, some 6, some 7, none]) ∧
    ([0xFF, 0xF8, 0xC9, 0x18, 0x00] : Bytes).length < flacLengthOf [0xFF, 0xF8, 0xC9, 0x18, 0x00] 1 ∧
    flacTrailerBad [0xFF, 0xF8, 0xC9, 0x18, 0x00, 0xC3] 1 none = true ∧
    flacLengthOf [0xFF, 0xF8, 0xC9, 0x18, 0x00, 0xC2] 1 = 6 ∧
    flacTrailerBad [0xFF, 0xF8, 0xC9, 0x18, 0x00, 0xC2] 1 none = false := by decide +kernel

theorem test_witness_OggPageHeaderDecodes :
    ((pageHead 0 []).take 26).length < 27 ∧ oggReserved (zeros 27) = true ∧
    (oggReserved ((pageHead 0 [1, 2]).take 28) = false ∧ 27 ≤ ((pageHead 0 [1, 2]).take 28).length ∧
      ((pageHead 0 [1, 2]).take 28).length < 27 + (byteAt ((pageHead 0 [1, 2]).take 28) 26).toNat) ∧
    (oggReserved (pageHead 0 [1, 2]) = false ∧
      27 + (byteAt (pageHead 0 [1, 2]) 26).toNat ≤ (pageHead 0 [1, 2]).length) := by decide +kernel

theorem test_witness_DecodersAreMonotone :
    (∃ t, exec (.mpegHdr [0xFF, 0xFB, 0x14, 0xC0]) State.reset = .next t ∧
      (match t.result with | .mpeg (.need _) => false | _ => true) = true) ∧
    (∃ t, exec (.adtsHdr [0xFF, 0xF1, 0x50, 0x80, 0x2E, 0x7F, 0xFC]) State.reset = .next t ∧
      (match t.result with | .adts (.need _) => false | _ => true) = true) ∧
    (∃ t, exec (.flacHdr [0xFF, 0xF8, 0xC9, 0x18, 0x00, 0xC2]) State.reset = .next t ∧
      (match t.result with | .flac (.need _) => false | _ => true) = true) ∧
    (∃ t, exec (.oggPage (pageHead 0 [1, 2])) State.reset = .next t ∧
      (match t.result with | .page (.need _) => false | _ => true) = true) :=
  ⟨next_of _ _ (by decide +kernel), next_of _ _ (by decide +kernel), next_of _ _ (by decide +kernel),
    next_of _ _ (by decide +kernel)⟩

/-- A sound cache that holds the header looked up. -/
theorem test_witness_CachedDecodeIsDecode :
    CacheSound (synced []) ∧ (cacheFind (synced []).cacheMap (mpegKey mpegFrame)).isSome = true ∧
    (synced []).cacheEn = true ∧
    (∃ t, exec (.mpegHdr mpegFrame) (synced []) = .next t ∧ true = true) ∧
    (∃ u, exec (.mpegHdr mpegFrame) (withoutCache (synced [])) = .next u ∧ true = true) :=
  ⟨by unfold CacheSound; decide +kernel, by decide +kernel, by decide +kernel,
    next_of _ (fun _ => true) (by decide +kernel), next_of _ (fun _ => true) (by decide +kernel)⟩

theorem test_witness_OpusIdStoresTheHeader :
    opusReady.idHeader ≠ none ∧ State.reset.idHeader = none ∧ (Pattern.opusHead : Bytes).length < 19 ∧
    (19 ≤ opusHead.length ∧ byteAt opusHead 8 = 1 ∧ (byteAt opusHead 9).toNat = 2 ∧
      (byteAt opusHead 18).toNat = 0) := by decide +kernel

theorem test_witness_OpusAudioDecodes :
    (∃ i, opusReady.idHeader = some (.opus i)) ∧ CacheSound opusReady ∧ opusCountBad [0x0B] = true ∧
    opusCountBad [0x0B, 7] = true ∧ opusCountBad [0x0B, 0] = true ∧ opusCountBad [0x0B, 6] = false ∧
    opusCountBad [0xFC] = false ∧ (∀ i, State.reset.idHeader ≠ some (.opus i)) :=
  ⟨⟨_, rfl⟩, by unfold CacheSound; decide +kernel, by decide +kernel, by decide +kernel, by decide +kernel,
    by decide +kernel, by decide +kernel, fun _ h => by cases h⟩

theorem test_witness_VorbisIdStoresTheHeader :
    vorbisReady.idHeader ≠ none ∧ State.reset.idHeader = none ∧ (vorbisHead.take 28).length < 29 ∧
    (29 ≤ vorbisHead.length ∧ le32 vorbisHead 7 = 0 ∧ byteAt vorbisHead 11 ≠ 0 ∧ le32 vorbisHead 12 ≠ 0 ∧
      (byteAt vorbisHead 28).toNat % 16 = 8 ∧ (byteAt vorbisHead 28).toNat / 16 = 11) := by decide +kernel

theorem test_witness_VorbisSetupAndAudio :
    vorbisReady.vorbisSetup = none ∧ ({ vorbisReady with vorbisSetup := some [] } : State).vorbisSetup ≠ none ∧
    (∃ i, vorbisReady.idHeader = some (.vorbis i)) ∧ vorbisReady.vorbisState = some 0 ∧
    (∀ i, State.reset.idHeader ≠ some (.vorbis i)) :=
  ⟨rfl, by decide +kernel, ⟨_, rfl⟩, rfl, fun _ h => by cases h⟩

theorem test_witness_OggFlacIdStoresStreamInfo :
    opusReady.idHeader ≠ none ∧ State.reset.idHeader = none ∧ (oggFlacHead.take 50).length < 51 ∧
    51 ≤ oggFlacHead.length := by decide +kernel

theorem test_witness_CommentAndSkeletonPackets :
    State.reset.codec = .unset ∧ ({ State.reset with codec := .flac } : State).codec = .flac ∧
    Pattern.fishead <+: Pattern.fishead ∧ Pattern.fisbone <+: Pattern.fisbone ∧
    Pattern.index <+: Pattern.index := by decide +kernel

theorem test_witness_PacketRowsFrame :
    Instr.vorbisAudio [0] ∈ ([.opusId [0], .opusTags [0], .opusToc [0], .vorbisId [0], .vorbisComment [0],
      .vorbisSetup [0], .vorbisAudio [0], .oggflacId [0], .skeletonFishead [0], .skeletonFisbone [0],
      .skeletonIndex [0]] : List Instr) := by decide

/-- A zero-length packet, and a packet open at the page's end. -/
theorem test_witness_LacingSplitsTheBody :
    ([] : Bytes).length = (([0] : Bytes).map BitVec.toNat).sum ∧
    (zeros 255).length = (([255] : Bytes).map BitVec.toNat).sum := by decide +kernel

theorem test_witness_ContinuationReassembles :
    ((([1], false) :: ([] : List PagePacket)).getLast?.map (·.2) = some false) ∧
    ((([1], true) :: ([] : List PagePacket)).getLast?.map (·.2) = some true) ∧
    ([] ++ [1] : Bytes).length ≤ State.reset.par.pendCap ∧
    ({ State.reset with par := { Config.defaultParams with pendCap := 0 } } : State).par.pendCap
      < ([1] : Bytes).length := by decide +kernel

/-- A page without packets, and one whose first packet shows no signature. -/
theorem test_witness_UnknownPagesAreIgnored :
    State.reset.codec = .unset ∧
    (continuation (splitPackets [] [] []) (seqCheck (oggPageRecord (pageHead 0 [])) State.reset)).1 = [] ∧
    (continuation (splitPackets [1] [7] []) (seqCheck (oggPageRecord (pageHead 0 [1])) State.reset)).1 = [[7]] ∧
    ¬ Pattern.opusHead <+: [7] ∧ ¬ Pattern.oggFlac <+: [7] ∧ ¬ Pattern.vorbis 1 <+: [7] := by decide +kernel

/-- A packet answered with a frame and one without, on each parser's port; two frames of one page; a page with a
codec set; and a first packet that shows each signature. -/
theorem test_witness_DispatchedFramesAreCounted :
    (opusReady.unitReq = none ∧ opusReady.codec = .opus ∧ vorbisReady.codec = .vorbis) ∧
    ([codecPacket [0xFC] opusReady, codecPacket [0x03] opusReady, codecPacket [0] vorbisReady,
      codecPacket flacFrame { opusReady with codec := .flac }].map fun r =>
        match r.1 with
        | .frame _ => true
        | _ => false) = [true, false, true, true] ∧
    ((dispatchPackets [[0xFC, 0, 0], [0xF8, 0]] true opusReady).1[1]?).isSome = true ∧
    opusReady.codec ≠ .unset ∧ (ready 3 []).codec = .unset ∧
    (continuation (splitPackets [19] opusHead []) (seqCheck (oggPageRecord (pageHead 0 [19])) (ready 3 []))).1
      = opusHead :: [] ∧
    Pattern.opusHead <+: opusHead ∧ Pattern.oggFlac <+: oggFlacHead ∧ Pattern.vorbis 1 <+: vorbisHead := by
  decide +kernel

theorem test_witness_EmittedFrameAndItsCallbacks :
    (synced []).cacheEn = true ∧ State.reset.cacheEn = false := by decide +kernel

/-- The two invariants hold in a state with sync, a cached header and a command on the channel. -/
theorem test_witness_invariants :
    HostInv { synced [] with chan := [0x30, 0, 0, 0] } ∧ CacheSound { synced [] with chan := [0x30, 0, 0, 0] } ∧
    ∃ t, step { synced [] with chan := [0x30, 0, 0, 0] } = .next t ∧
      decide (t.resp.isSome = true) = true :=
  ⟨by unfold HostInv; decide +kernel, by unfold CacheSound; decide +kernel, next_of _ _ (by decide +kernel)⟩

theorem test_witness_CommittedStepConsumesBytes :
    CacheSound (synced []) ∧ ∃ t, microStep (synced []) = .committed t ∧ true = true :=
  ⟨by unfold CacheSound; decide +kernel, committed_of _ (fun _ => true) (by decide +kernel)⟩

/-- Sync lost, gained, kept, and one byte of the search. -/
theorem test_witness_ModeChangesAreThoseOfTheTable :
    ((advanceBy 24 (synced (zeros 4))).mode = .synced ∧
      ∃ t, microStep (advanceBy 24 (synced (zeros 4))) = .committed t ∧ decide (t.mode = .seeking) = true) ∧
    ((ready 0 (mpegFrame ++ mpegFrame)).mode = .seeking ∧
      ∃ t, microStep (ready 0 (mpegFrame ++ mpegFrame)) = .committed t ∧ decide (t.mode = .synced) = true) ∧
    ((synced []).mode = .synced ∧ ∃ t, microStep (synced []) = .committed t ∧
      decide (t.mode = .synced) = true) ∧
    ((ready 0 (zeros 4)).mode = .seeking ∧ (ready 0 (zeros 4)).flushing = false ∧
      ∃ t, microStep (ready 0 (zeros 4)) = .committed t ∧ decide (t.mode = .seeking) = true) :=
  ⟨⟨by decide +kernel, committed_of _ _ (by decide +kernel)⟩,
    ⟨by decide +kernel, committed_of _ _ (by decide +kernel)⟩,
    ⟨by decide +kernel, committed_of _ _ (by decide +kernel)⟩,
    ⟨by decide +kernel, by decide +kernel, committed_of _ _ (by decide +kernel)⟩⟩

/-- From SEEKING a frame confirmed by its successor is queued, outside a flush, from an empty queue. -/
theorem test_witness_committed_frames :
    ((ready 0 (mpegFrame ++ mpegFrame)).codecSel ≠ 2 ∧ (ready 0 (mpegFrame ++ mpegFrame)).flushing = false ∧
      (ready 0 (mpegFrame ++ mpegFrame)).outQ = []) ∧
    (∃ t, microStep (ready 0 (mpegFrame ++ mpegFrame)) = .committed t ∧
      (t.outQ.any fun e => match e with | .frame f => f.confirmed | _ => false) = true) ∧
    (∃ t, microStep (ready 1 (adtsFrame ++ adtsFrame)) = .committed t ∧
      (t.outQ.any fun e => match e with | .frame f => f.confirmed | _ => false) = true) ∧
    (∃ t, microStep { opusReady with buf := pageHead 0 [] ++ pageHead 1 [] } = .committed t ∧
      (t.outQ.any fun e => match e with | .page p => p.confirmed | _ => false) = true) :=
  ⟨by decide +kernel, committed_of _ _ (by decide +kernel), committed_of _ _ (by decide +kernel),
    committed_of _ _ (by decide +kernel)⟩

/-- A header rejected in both modes, invalid and short at flush; a second header that is invalid; a FLAC header
whose footer fails at every candidate end. -/
theorem test_witness_rejected_headers :
    ((ready 0 (zeros 4)).mode = .seeking ∧ (decodeAt 0 (ready 0 (zeros 4))).1 = .invalid) ∧
    ((advanceBy 24 (synced (zeros 4))).mode = .synced ∧
      (decodeAt 0 (advanceBy 24 (synced (zeros 4)))).1 = .invalid) ∧
    ((flushingReady 0 [0xFF]).flushing = true ∧ (decodeAt 0 (flushingReady 0 [0xFF])).1 = .need 4) ∧
    (match (decodeAt 0 (ready 0 (mpegFrame ++ zeros 4))).1 with
      | .parsed h => decide ((decodeAt (unitLength h) (ready 0 (mpegFrame ++ zeros 4))).1 = .invalid)
      | _ => false) = true ∧
    (match (decodeFlac (flacFrame.take 8) none (flushingReady 2 (flacFrame.take 8))).1 with
      | .parsed h => h.headerLength == 6
      | _ => false) = true ∧
    (∀ p, p ≤ 8 → 6 + 2 ≤ p → footerMatches ((flacFrame.take 8).take p) = false) := by decide +kernel

/-- R154's flush rows: the confirming header short with the unit buffered, the unit cut in SEEKING and in SYNCED,
and a page cut. -/
theorem test_witness_units_at_flush :
    ([flushingReady 0 mpegFrame, flushingReady 0 (mpegFrame.take 23), flushingReady 1 (adtsFrame.take 19),
      { synced [] with flushing := true, buf := mpegFrame.take 4 },
      { opusReady with flushing := true, buf := (pageHead 0 [1]) }].map fun s =>
        match (decodeAt 0 s).1 with
        | .parsed h =>
          let short := match (decodeAt (unitLength h) s).1 with
            | .need _ => true
            | _ => false
          some (s.flushing, short, decide (unitLength h ≤ s.buf.length))
        | _ => none)
      = [some (true, true, true), some (true, true, false), some (true, true, false),
         some (true, true, false), some (true, true, false)] ∧
    ({ synced [] with flushing := true } : State).mode = .synced := by decide +kernel

/-- The converse's hypotheses: a second header at the first unit's end, in SEEKING; the unit buffered, in
SYNCED; for each of the three formats. -/
theorem test_witness_SeekingUnitNeedsSecondHeader :
    ((ready 0 (mpegFrame ++ mpegFrame)).mode = .seeking ∧ (synced []).mode = .synced ∧
      (synced []).buf.length = 24) ∧
    ([ready 0 (mpegFrame ++ mpegFrame), ready 1 (adtsFrame ++ adtsFrame),
      { opusReady with buf := pageHead 0 [] ++ pageHead 1 [] }, synced [],
      { opusReady with mode := .synced, buf := pageHead 0 [] ++ pageHead 1 [] }].map fun s =>
        match (decodeAt 0 s).1 with
        | .parsed h =>
          let second := match (decodeAt (unitLength h) s).1 with
            | .parsed _ => true
            | _ => false
          some (unitLength h, second, decide (unitLength h ≤ s.buf.length))
        | _ => none)
      = [some (24, true, true), some (20, true, true), some (27, true, true), some (24, false, true),
         some (27, true, true)] := by decide +kernel

/-- A frame queued while flushing; a candidate end with 16 bytes behind it; and the flush's last candidate. -/
theorem test_witness_FlacFramePassesItsFooter :
    ((flushingReady 2 flacFrame).codecSel = 2 ∧ (flushingReady 2 flacFrame).outQ = [] ∧
      ∃ t, microStep (flushingReady 2 flacFrame) = .committed t ∧
        (t.outQ.any fun e => match e with | .frame f => f.data == flacFrame | _ => false) = true) ∧
    (let s := ready 2 (flacFrame ++ flacFrame ++ zeros 4);
      s.codecSel = 2 ∧ 12 + 16 ≤ s.buf.length ∧ footerMatches (s.buf.take 12) = true ∧
      byteAt s.buf 12 = 0xFF ∧ byteAt s.buf 13 = 0xF8 ∧
      ([s.buf, s.buf.drop 12].map fun b =>
        match (decodeFlac b none s).1 with
        | .parsed h => some h.headerLength
        | _ => none) = [some 6, some 6]) ∧
    ((flushingReady 2 flacFrame).flushing = true ∧ flacFrame.length = 12 ∧ footerMatches flacFrame = true ∧
      ∀ p, p < 12 → 6 + 2 ≤ p → footerMatches (flacFrame.take p) = false) :=
  ⟨⟨by decide +kernel, by decide +kernel, committed_of _ _ (by decide +kernel)⟩, by decide +kernel,
    by decide +kernel⟩

theorem test_witness_MoreInputNeverChangesACommitment :
    (ready 0 (zeros 4)).flushing = false ∧
    (∃ t, microStep (ready 0 (zeros 4)) = .committed t ∧ true = true) ∧
    microStep (ready 0 []) = .suspend 4 ∧ ([1, 2, 3] : Bytes).length < 4 :=
  ⟨by decide +kernel, committed_of _ (fun _ => true) (by decide +kernel), rfl, by decide⟩

/-- A frame cut in two: the first chunk gives NEED, the second the frame. -/
theorem test_witness_ChunkingDoesNotChangeTheEvents :
    let s := ready 0 []
    let a := mpegFrame
    let b := mpegFrame
    let s1 := (outState (exec (.push a) s)).getD s
    let t := ((drain 9 s1).map (·.2)).getD s
    let t1 := (outState (exec (.push b) t)).getD s
    s.configured = true ∧ s.flushing = false ∧ s.buf.length + a.length + b.length ≤ s.par.bufCap ∧
    (outState (exec (.push a) s)).isSome = true ∧ (drain 9 s1).isSome = true ∧
    (outState (exec (.push b) t)).isSome = true ∧ ((drain 9 t1).any fun r => !r.1.isEmpty) = true ∧
    (outState (exec (.push (a ++ b)) s)).isSome = true := by decide +kernel

theorem test_witness_SuspensionBufferBound :
    (HostInv (ready 0 []) ∧ CacheSound (ready 0 []) ∧ microStep (ready 0 []) = .suspend 4) ∧
    (HostInv (ready 1 []) ∧ CacheSound (ready 1 []) ∧ microStep (ready 1 []) = .suspend 7) ∧
    (HostInv (ready 2 []) ∧ CacheSound (ready 2 []) ∧ microStep (ready 2 []) = .suspend 4) ∧
    (HostInv (ready 3 []) ∧ CacheSound (ready 3 []) ∧ microStep (ready 3 []) = .suspend 27) := by
  refine ⟨⟨?_, rfl, rfl⟩, ⟨?_, rfl, rfl⟩, ⟨?_, rfl, rfl⟩, ⟨?_, rfl, rfl⟩⟩ <;>
    (unfold HostInv; decide +kernel)

theorem test_witness_FlushAlwaysCompletes :
    HostInv (flushingReady 0 mpegFrame) ∧ CacheSound (flushingReady 0 mpegFrame) ∧
    (flushingReady 0 mpegFrame).configured = true ∧ (flushingReady 0 mpegFrame).flushing = true :=
  ⟨by unfold HostInv; decide +kernel, rfl, rfl, rfl⟩

end Sys2Proof.Tests
end

/-! The host commands that answer from the state alone, and the reset state. -/

namespace Sys2Proof.Machine

/-! ### Reset -/

/-- Settles O44: every field of the reset state is written out in its definition. -/
theorem resetLeavesTheStatedValues : Obligations.ResetLeavesTheStatedValues := by
  unfold Obligations.ResetLeavesTheStatedValues
  simp [State.reset]

theorem hostInv_reset : HostInv State.reset := by
  refine ⟨rfl, by decide, reset_memory_wf, by decide, by decide, fun _ => rfl, rfl, Nat.zero_le _,
    Nat.zero_le _, by decide, by decide⟩

/-- Settles O45: the cache is empty at reset, so that soundness asks for nothing. -/
theorem resetMeetsTheInvariants : Obligations.ResetMeetsTheInvariants :=
  ⟨hostInv_reset, rfl⟩

/-- A full reset is the reset state but for the host's side and the parameters, which it keeps (R75). -/
theorem fullReset_eq (s : State) :
    fullReset s = { State.reset with
      chan := s.chan, resp := s.resp, unitReq := s.unitReq, result := s.result, par := s.par } := rfl

/-! ### CONFIG, FLUSH, GETCODEC -/

theorem execConfig_unsupported (s : State) (sel : BitVec 3) (log crc : Bool) (h : 4 ≤ sel.toNat) :
    execConfig sel log crc s = .next { fullReset s with resp := some (.err .unsupported) } := by
  simp [execConfig, h]

theorem execConfig_supported (s : State) (sel : BitVec 3) (log crc : Bool) (h : sel.toNat < 4) :
    execConfig sel log crc s = .next { configure sel log crc s with resp := some .ok } := by
  simp [execConfig, Nat.not_le.mpr h]

/-- A supported configuration queues CODEC unless it selects OGG, whose codec the sniff finds (R76). -/
theorem configure_eq (s : State) (sel : BitVec 3) (log crc : Bool) (h : sel.toNat < 4) :
    configure sel log crc s = { fullReset s with
      codecSel := sel.setWidth 2, logEn := log, crc32En := crc, configured := true,
      codec := selectedCodec sel.toNat,
      outQ := if sel.toNat = 3 then [] else [.codec (selectedCodec sel.toNat)] } := by
  unfold configure
  by_cases hsel : sel.toNat = 3
  · simp [hsel, fullReset]
  · have hle : sel.toNat ≤ 2 := by omega
    simp [hsel, hle, emit, fullReset]

theorem selectedCodec_eq_getD (n : Nat) (h : n < 4) :
    selectedCodec n = [Codec.mpeg, .aac, .flac, .unset].getD n .unset := by
  match n, h with
  | 0, _ | 1, _ | 2, _ | 3, _ => rfl

/-- Settles O6. -/
theorem configBuildsTheMachine : Obligations.ConfigBuildsTheMachine := by
  intro s sel log crc
  refine ⟨fun h => ?_, fun h => ?_⟩
  · rw [← selectedCodec_eq_getD _ h]
    change execConfig sel log crc s = _
    rw [execConfig_supported _ _ _ _ h, configure_eq _ _ _ _ h, fullReset_eq]
  · change execConfig sel log crc s = _
    rw [execConfig_unsupported _ _ _ _ h, fullReset_eq]

theorem execFlush_configured (s : State) (h : s.configured = true) :
    execFlush s = .next { s with flushing := true, resp := some .ok } := by
  simp [execFlush, h]

theorem execFlush_unconfigured (s : State) (h : s.configured = false) :
    execFlush s = .next { s with resp := some (.err .notConfigured) } := by
  simp [execFlush, h]

/-- Settles O10. -/
theorem flushAndGetcodec : Obligations.FlushAndGetcodec := fun s =>
  ⟨execFlush_configured s, execFlush_unconfigured s, rfl⟩

/-! ### RDREG -/

/-- A register that exists is answered with its value (R81). -/
theorem execRdreg_some (s : State) (reg : Byte) (v : Word64) (h : readRegister s reg.toNat = some v) :
    execRdreg reg s = .next { s with resp := some (.reg v) } := by
  simp [execRdreg, h]

theorem execRdreg_none (s : State) (reg : Byte) (h : readRegister s reg.toNat = none) :
    execRdreg reg s = .next { s with resp := some (.err .badReg) } := by
  simp [execRdreg, h]

/-- Registers from 13 on do not exist (R38). -/
theorem readRegister_none (s : State) (n : Nat) (h : 13 ≤ n) : readRegister s n = none := by
  match n, h with
  | _ + 13, _ => rfl

/-- Registers 2 to 12 in order (R38). -/
theorem readRegister_add_two (s : State) (k : Nat) (hk : k < 11) :
    readRegister s (k + 2) =
      [s.pos, s.totalIn, BitVec.ofNat 64 s.buf.length, s.frameNo, s.totalBytesOut, s.totalSamples,
        BitVec.ofNat 64 s.curRate, s.lastSeq.setWidth 64, BitVec.ofNat 64 s.pagesSeen,
        BitVec.ofNat 64 s.pending.length, BitVec.ofNat 64 s.outQ.length][k]? := by
  match k, hk with
  | 0, _ | 1, _ | 2, _ | 3, _ | 4, _ | 5, _ | 6, _ | 7, _ | 8, _ | 9, _ | 10, _ => rfl

/-- A bit of a register's value is a binary digit of the number it holds. -/
theorem getLsbD_ofNat_eq_digit {n i : Nat} {b : Bool} (inside : i < 64) (digit : n / 2 ^ i % 2 = b.toNat) :
    (BitVec.ofNat 64 n).getLsbD i = b := by
  rw [BitVec.getLsbD_ofNat, decide_eq_true inside, Bool.true_and, Nat.testBit_eq_decide_div_mod_eq, digit]
  cases b <;> rfl

/-- A field of a register's value is the same digits of the number it holds. -/
theorem toNat_extractLsb'_ofNat (n lo len : Nat) (small : n < 2 ^ 64) :
    ((BitVec.ofNat 64 n).extractLsb' lo len).toNat = n / 2 ^ lo % 2 ^ len := by
  rw [BitVec.extractLsb'_toNat, BitVec.toNat_ofNat, Nat.mod_eq_of_lt small, Nat.shiftRight_eq_div_pow]

/-- The control word's fields, R16. -/
theorem ctrlWord_fields (sel : BitVec 2) (log crc : Bool) :
    let v := BitVec.ofNat 64 (sel.toNat + log.toNat * 2 ^ 3 + crc.toNat * 2 ^ 4)
    v.extractLsb' 0 3 = sel.setWidth 3 ∧ v.getLsbD 3 = log ∧ v.getLsbD 4 = crc
      ∧ v.extractLsb' 5 59 = 0 := by
  have hsel := sel.isLt
  have hlog := log.toNat_le
  have hcrc := crc.toNat_le
  refine ⟨?_, getLsbD_ofNat_eq_digit (by decide) (by omega),
    getLsbD_ofNat_eq_digit (by decide) (by omega), ?_⟩ <;> apply BitVec.eq_of_toNat_eq
  · rw [toNat_extractLsb'_ofNat _ _ _ (by omega), BitVec.toNat_setWidth]
    omega
  · rw [toNat_extractLsb'_ofNat _ _ _ (by omega)]
    change _ = 0
    omega

/-- Settles O12: register 0 by its fields, 2 to 12 in the order of the list, none from 13 on. -/
theorem rdregReadsTheMap : Obligations.RdregReadsTheMap := by
  intro s
  refine ⟨⟨_, execRdreg_some s 0 _ rfl, ctrlWord_fields s.codecSel s.logEn s.crc32En⟩, ?_, ?_⟩
  · intro k v hv
    have hk : k < 11 := (List.getElem?_eq_some_iff.mp hv).1
    have hreg : (BitVec.ofNat 8 (k + 2)).toNat = k + 2 := by
      rw [BitVec.toNat_ofNat]; omega
    refine execRdreg_some s _ v ?_
    rw [hreg, readRegister_add_two s k hk, hv]
  · intro reg h
    exact execRdreg_none s reg (readRegister_none s _ h)

theorem codecNumber_lt (c : Codec) : codecNumber c < 6 := by
  cases c <;> decide

theorem codec_getElem?_codecNumber (c : Codec) :
    [Codec.unset, .mpeg, .aac, .flac, .opus, .vorbis][codecNumber c]? = some c := by
  cases c <;> rfl

/-- The status word's bits, R39, of the flags and of the codec's number: its summands are the digits of
one number. -/
theorem statusWord_fields (configured synced flushing cacheEn headerSent hasId hasPending : Bool)
    (codec : Codec) :
    let v := BitVec.ofNat 64 (configured.toNat + synced.toNat * 2 ^ 1 + flushing.toNat * 2 ^ 2
      + cacheEn.toNat * 2 ^ 3 + headerSent.toNat * 2 ^ 4 + codecNumber codec * 2 ^ 5
      + hasId.toNat * 2 ^ 8 + hasPending.toNat * 2 ^ 9)
    v.getLsbD 0 = configured ∧ v.getLsbD 1 = synced ∧ v.getLsbD 2 = flushing ∧ v.getLsbD 3 = cacheEn
      ∧ v.getLsbD 4 = headerSent
      ∧ [Codec.unset, .mpeg, .aac, .flac, .opus, .vorbis][(v.extractLsb' 5 3).toNat]? = some codec
      ∧ v.getLsbD 8 = hasId ∧ v.getLsbD 9 = hasPending ∧ v.extractLsb' 10 54 = 0 := by
  have h0 := configured.toNat_le
  have h1 := synced.toNat_le
  have h2 := flushing.toNat_le
  have h3 := cacheEn.toNat_le
  have h4 := headerSent.toNat_le
  have hc := codecNumber_lt codec
  have h8 := hasId.toNat_le
  have h9 := hasPending.toNat_le
  refine ⟨getLsbD_ofNat_eq_digit (by decide) (by omega), getLsbD_ofNat_eq_digit (by decide) (by omega),
    getLsbD_ofNat_eq_digit (by decide) (by omega), getLsbD_ofNat_eq_digit (by decide) (by omega),
    getLsbD_ofNat_eq_digit (by decide) (by omega), ?_, getLsbD_ofNat_eq_digit (by decide) (by omega),
    getLsbD_ofNat_eq_digit (by decide) (by omega), ?_⟩
  · rw [toNat_extractLsb'_ofNat _ _ _ (by omega), ← codec_getElem?_codecNumber codec]
    congr 1
    omega
  · apply BitVec.eq_of_toNat_eq
    rw [toNat_extractLsb'_ofNat _ _ _ (by omega)]
    change _ = 0
    omega

/-- Settles O13. -/
theorem statusBitsShowTheState : Obligations.StatusBitsShowTheState := by
  intro s
  obtain ⟨h0, h1, h2, h3, h4, hcodec, h8, h9, hrest⟩ :=
    statusWord_fields s.configured (decide (s.mode = .synced)) s.flushing s.cacheEn s.headerSent
      s.idHeader.isSome (decide (s.pending ≠ [])) s.codec
  refine ⟨_, execRdreg_some s 1 _ rfl, h0, ?_, h2, h3, h4, hcodec, h8, ?_, hrest⟩
  · exact (Bool.eq_iff_iff.mp h1).trans decide_eq_true_iff
  · exact (Bool.eq_iff_iff.mp h9).trans decide_eq_true_iff

/-! ### CACHE_STORE -/

/-- Settles O23: the three cases of a store, and the map laws of the insertion. -/
theorem cacheStoreThenLookup : Obligations.CacheStoreThenLookup := by
  intro s key h i
  have hexec : exec (.cacheStore key h i) s
      = .next { cacheStore key h i s with result := .completed } := rfl
  rcases cacheStore_cases key h i s with ⟨hoff, e⟩ | ⟨hon, hkept, e⟩ | ⟨hon, hnew, hroom, e⟩
  · refine ⟨fun _ => by rw [hexec, e], fun hon => ?_⟩
    rw [hoff] at hon; cases hon
  · refine ⟨fun hoff => (by rw [hon] at hoff; cases hoff), fun _ hsorted => ?_⟩
    refine ⟨s.cacheMap, by rw [hexec, e], hsorted, fun _ _ => rfl, fun _ => rfl, ?_, fun _ _ => rfl⟩
    intro hnone hroom
    rcases hkept with hheld | hfull
    · rw [hnone] at hheld; cases hheld
    · omega
  · refine ⟨fun hoff => (by rw [hon] at hoff; cases hoff), fun _ hsorted => ?_⟩
    refine ⟨cacheInsert s.cacheMap key (h, i), by rw [hexec, e],
      cacheInsert_sorted _ _ _ hsorted hnew, ?_, ?_, ?_, ?_⟩
    · intro k hk
      rw [cacheInsert_find _ _ _ _ hnew, if_neg hk.symm]
    · intro hheld
      rw [hnew] at hheld; cases hheld
    · intro _ _
      exact ⟨by rw [cacheInsert_find _ _ _ _ hnew, if_pos rfl], cacheInsert_length _ _ _⟩
    · intro _ hfull
      omega

end Sys2Proof.Machine

/-! What a committed micro-step does, said once: it skips a byte, gives up sync, or takes one unit off the
head of the buffer (R140 to R157). Every fact about committed micro-steps below is a case analysis on it. -/

namespace Sys2Proof.Machine

/-! ### Header decoders ask for bytes before they answer -/

theorem decodeAt_need_of_length_le (off : Nat) (s : State) (h : s.buf.length ≤ off) :
    ∃ k, (decodeAt off s).1 = .need k := by
  unfold decodeAt
  rw [List.drop_eq_nil_of_le h]
  split
  · exact ⟨4, rfl⟩
  · exact ⟨7, rfl⟩
  · exact ⟨27, rfl⟩

theorem oggPageRecord_segmentTable_length_le (b : Bytes) :
    (oggPageRecord b).segmentTable.length ≤ 255 := by
  have hbyte : (byteAt b 26).toNat < 256 := (byteAt b 26).isLt
  have htable : (oggPageRecord b).segmentTable.length ≤ (byteAt b 26).toNat := by
    simp [oggPageRecord, slice]
  omega

theorem decodeOggPage_parsed (b : Bytes) (h : OggPageHeader) (hd : decodeOggPage b = .parsed h) :
    h = oggPageRecord b := by
  unfold decodeOggPage at hd
  split at hd
  · cases hd
  split at hd
  · cases hd
  split at hd
  · cases hd
  split at hd
  · cases hd
  simp only at hd
  split at hd
  · cases hd
  · cases hd; rfl

theorem mapResult_eq_parsed {α β : Type} {f : α → β} {r : DecodeResult α} {y : β} :
    mapResult f r = .parsed y ↔ ∃ x, r = .parsed x ∧ f x = y := by
  cases r <;> simp [mapResult]

/-- A unit header fits the selected format: a page is decoded in OGG mode alone, or while codecSel 2 sends
the micro-step elsewhere, and has at most 255 lacing values (R188). -/
def PageFits (s : State) (u : UnitHeader) : Prop :=
  ∀ h, u = .page h → 2 ≤ s.codecSel.toNat ∧ h.segmentTable.length ≤ 255

theorem pageFits_decodeAt (off : Nat) (s : State) (u : UnitHeader)
    (hd : (decodeAt off s).1 = .parsed u) : PageFits s u := by
  rintro h rfl
  unfold decodeAt at hd
  split at hd
  · obtain ⟨_, -, hm⟩ := mapResult_eq_parsed.mp hd
    cases hm
  · obtain ⟨_, -, hm⟩ := mapResult_eq_parsed.mp hd
    cases hm
  · next h0 h1 =>
    obtain ⟨p, hp, hm⟩ := mapResult_eq_parsed.mp hd
    cases hm
    rw [decodeOggPage_parsed _ _ hp]
    exact ⟨(Nat.two_le_iff _).mpr ⟨h0, h1⟩, oggPageRecord_segmentTable_length_le _⟩

/-! ### The state a unit is taken in -/

/-- A decoder has run: lastKey alone may differ (R134). -/
def Relooked (s u : State) : Prop := ∃ k, u = { s with lastKey := k }

theorem Relooked.refl (s : State) : Relooked s s := ⟨s.lastKey, rfl⟩

theorem Relooked.trans {s t u : State} (a : Relooked s t) (b : Relooked t u) : Relooked s u := by
  obtain ⟨_, rfl⟩ := a
  obtain ⟨k, rfl⟩ := b
  exact ⟨k, rfl⟩

theorem Relooked.sameInput {s u : State} (h : Relooked s u) : SameInput s u := by
  obtain ⟨k, rfl⟩ := h
  constructor <;> rfl

theorem relooked_of_decodeAt {off : Nat} {s t : State} {d : DecodeResult UnitHeader}
    (h : orSuspend off (decodeAt off s) = .value d t) : Relooked s t := by
  rw [(orSuspend_decodeAt off s t d h).2.1]
  exact decodeAt_state off s

theorem relooked_of_decodeFlac {off : Nat} {b : Bytes} {si : Option StreamInfo} {s t : State}
    {d : DecodeResult FlacHeader} (h : orSuspend off (decodeFlac b si s) = .value d t) :
    Relooked s t := by
  rw [(orSuspend_decodeFlac off b si s t d h).2.1]
  exact decodeFlac_state b si s

/-- The state a unit is taken in: decoders have run, and sync may have been found (R144, R151). -/
def AtCursor (s u : State) : Prop := ∃ v, Relooked s v ∧ (u = v ∨ u = gainSync v)

theorem Relooked.atCursor {s u : State} (h : Relooked s u) : AtCursor s u := ⟨u, h, .inl rfl⟩

theorem Relooked.atCursor_gainSync {s u : State} (h : Relooked s u) : AtCursor s (gainSync u) :=
  ⟨u, h, .inr rfl⟩

/-! ### The ways a micro-step commits -/

/-- What a committed micro-step leaves, by what it did at the cursor. -/
inductive MicroCommit (s : State) : State → Prop where
  /-- One byte skipped while SEEKING. -/
  | skipped (u : State) (look : Relooked s u) (nonempty : s.buf ≠ []) : MicroCommit s (advanceBy 1 u)
  /-- Sync lost or not confirmed. -/
  | resynced (w : Warning) (u : State) (look : Relooked s u) (nonempty : s.buf ≠ []) :
      MicroCommit s (resync w u)
  /-- A frame of the n bytes at the head of the buffer. -/
  | frame (h : Header) (n : Nat) (confirmed truncated : Bool) (u : State) (cursor : AtCursor s u)
      (inside : n ≤ s.buf.length) :
      MicroCommit s (advanceBy n (emitFrame h (s.buf.take n) confirmed truncated u))
  /-- A whole page, in OGG mode. -/
  | page (h : OggPageHeader) (confirmed : Bool) (u : State) (cursor : AtCursor s u)
      (ogg : s.codecSel = 3) (segments : h.segmentTable.length ≤ 255)
      (inside : h.pageLength ≤ s.buf.length) : MicroCommit s (processPage h confirmed u)
  /-- The rest of the buffer as a truncated page. -/
  | cutPage (h : OggPageHeader) (u : State) (cursor : AtCursor s u) : MicroCommit s (truncatedPage h u)

/-- Taking a unit depends on the buffer alone, which the cursor states share. -/
theorem AtCursor.buf_eq {s u : State} (h : AtCursor s u) : u.buf = s.buf := by
  obtain ⟨v, look, rfl | rfl⟩ := h <;> exact look.sameInput.buf

theorem acceptUnit_commits {s u : State} (h : UnitHeader) (c : Bool) (cursor : AtCursor s u)
    (fits : PageFits s h) (notFlac : s.codecSel ≠ 2) (inside : unitLength h ≤ s.buf.length) :
    MicroCommit s (acceptUnit h c u) := by
  cases h with
  | mpeg m =>
    simp only [acceptUnit, cursor.buf_eq]
    exact .frame _ _ _ _ _ cursor inside
  | adts a =>
    simp only [acceptUnit, cursor.buf_eq]
    exact .frame _ _ _ _ _ cursor inside
  | page p =>
    obtain ⟨hsel, segments⟩ := fits p rfl
    have ogg : s.codecSel = 3 := by bv_omega
    exact .page p c u cursor ogg segments inside

theorem acceptTruncated_commits {s u : State} (h : UnitHeader) (cursor : AtCursor s u) :
    MicroCommit s (acceptTruncated h u) := by
  have whole : s.buf.take s.buf.length = s.buf := List.take_length
  cases h with
  | mpeg m =>
    have := MicroCommit.frame (.mpeg m) s.buf.length (decide (u.mode = .synced)) true u cursor le_rfl
    rw [whole] at this
    simpa only [acceptTruncated, cursor.buf_eq] using this
  | adts a =>
    have := MicroCommit.frame (.adts a) s.buf.length (decide (u.mode = .synced)) true u cursor le_rfl
    rw [whole] at this
    simpa only [acceptTruncated, cursor.buf_eq] using this
  | page p => exact .cutPage p u cursor

/-- A confirming header that is no Need begins inside the buffer. -/
theorem decodeAt_inside {off : Nat} {s t : State} {d : DecodeResult UnitHeader}
    (h : orSuspend off (decodeAt off s) = .value d t) (answered : ∀ k, d ≠ .need k) :
    off < s.buf.length := by
  by_contra hout
  obtain ⟨k, hk⟩ := decodeAt_need_of_length_le off s (Nat.not_lt.mp hout)
  rw [(orSuspend_decodeAt off s t d h).1] at answered
  exact answered k hk

theorem confirmUnit_commits {s u t : State} (h : UnitHeader) (look : Relooked s u)
    (fits : PageFits s h) (notFlac : s.codecSel ≠ 2) (nonempty : s.buf ≠ [])
    (hc : confirmUnit h u = .committed t) : MicroCommit s t := by
  have hbuf : u.buf = s.buf := look.sameInput.buf
  unfold confirmUnit at hc
  split at hc
  · cases hc
  · next e =>
    have look' := look.trans (relooked_of_decodeAt e)
    split at hc
    · cases hc; exact acceptTruncated_commits h look'.atCursor
    · next hlen =>
      cases hc
      rw [look'.sameInput.buf] at hlen
      exact acceptUnit_commits h false look'.atCursor fits notFlac (Nat.not_lt.mp hlen)
  · next e => cases hc; exact .resynced _ _ (look.trans (relooked_of_decodeAt e)) nonempty
  · next e =>
    cases hc
    have inside := decodeAt_inside e (by simp)
    rw [hbuf] at inside
    exact acceptUnit_commits h true (look.trans (relooked_of_decodeAt e)).atCursor_gainSync fits notFlac
      inside.le

theorem syncedUnit_commits {s u t : State} (h : UnitHeader) (look : Relooked s u)
    (fits : PageFits s h) (notFlac : s.codecSel ≠ 2) (hc : syncedUnit h u = .committed t) :
    MicroCommit s t := by
  unfold syncedUnit at hc
  rw [look.sameInput.buf] at hc
  split at hc
  · split at hc
    · cases hc; exact acceptTruncated_commits h look.atCursor
    · cases hc
  · next hlen =>
    cases hc
    exact acceptUnit_commits h true look.atCursor fits notFlac (Nat.not_lt.mp hlen)

theorem fixedStep_commits {s t : State} (notFlac : s.codecSel ≠ 2) (nonempty : s.buf ≠ [])
    (hc : fixedStep s = .committed t) : MicroCommit s t := by
  unfold fixedStep at hc
  split at hc
  · cases hc
  · next h u e =>
    have look := relooked_of_decodeAt e
    have fits := pageFits_decodeAt 0 s h (orSuspend_decodeAt _ _ _ _ e).1.symm
    split at hc
    · exact confirmUnit_commits h look fits notFlac nonempty hc
    · exact syncedUnit_commits h look fits notFlac hc
  · next e =>
    have look := relooked_of_decodeAt e
    split at hc <;> cases hc
    · exact .skipped _ look nonempty
    · exact .resynced _ _ look nonempty

/-- The footer scan writes lastKey alone, and a frame end it finds lies within the buffer (R150). -/
theorem flacScanFrom_found_le {tries p : Nat} {rest : Bytes} {s t : State} {r : ScanResult}
    (h : flacScanFrom tries p rest s = .value r t) :
    Relooked s t ∧ ∀ q c, r = .found q c → q ≤ s.buf.length := by
  induction tries generalizing p rest s with
  | zero => cases h; exact ⟨.refl _, by simp⟩
  | succ n ih =>
    unfold flacScanFrom at h
    split at h
    · cases h; exact ⟨.refl _, by simp⟩
    split at h
    · next hend =>
      cases h
      refine ⟨.refl _, fun q c hq => ?_⟩
      split at hq <;> cases hq
      exact hend.2.ge
    split at h
    · split at h
      · exact ih h
      · cases h
    next hroom =>
    split at h
    · exact ih h
    split at h
    · exact ih h
    split at h
    · cases h
    · next e =>
      cases h
      exact ⟨relooked_of_decodeFlac e, fun q c hq => by cases hq; omega⟩
    · next e =>
      cases h
      exact ⟨relooked_of_decodeFlac e, fun q c hq => by cases hq; omega⟩
    · next e =>
      have look := relooked_of_decodeFlac e
      obtain ⟨look', found⟩ := ih h
      rw [look.sameInput.buf] at found
      exact ⟨look.trans look', found⟩

theorem acceptFlac_commits {s u : State} (h : FlacHeader) (p : Nat) (c : Bool) (look : Relooked s u)
    (inside : p ≤ s.buf.length) : MicroCommit s (acceptFlac h p c u) := by
  have cursor : AtCursor s (if u.mode = .seeking ∧ c = true then gainSync u else u) := by
    split
    · exact look.atCursor_gainSync
    · exact look.atCursor
  unfold acceptFlac
  simp only
  rw [cursor.buf_eq]
  exact .frame _ _ _ _ _ cursor inside

theorem flacStep_commits {s t : State} (nonempty : s.buf ≠ []) (hc : flacStep s = .committed t) :
    MicroCommit s t := by
  unfold flacStep at hc
  split at hc
  · cases hc
  · next e =>
    have look := relooked_of_decodeFlac e
    split at hc
    · cases hc
    · next e' => cases hc; exact .resynced _ _ (look.trans (flacScanFrom_found_le e').1) nonempty
    · next e' =>
      cases hc
      obtain ⟨look', found⟩ := flacScanFrom_found_le e'
      rw [look.sameInput.buf] at found
      exact acceptFlac_commits _ _ _ (look.trans look') (found _ _ rfl)
  · next e =>
    have look := relooked_of_decodeFlac e
    split at hc <;> cases hc
    · exact .skipped _ look nonempty
    · exact .resynced _ _ look nonempty

/-- With an empty buffer a micro-step completes the flush or suspends, so that a committed one has a byte
to consume. -/
theorem microStep_committed_nonempty {s t : State} (hc : microStep s = .committed t) : s.buf ≠ [] := by
  intro hempty
  cases hf : s.flushing with
  | true => simp [microStep, hf, hempty] at hc
  | false =>
    unfold microStep at hc
    rw [if_neg (by simp [hf])] at hc
    split at hc
    · simp [flacStep, decodeFlac, orSuspend, hempty, hf] at hc
    · obtain ⟨k, hk⟩ := decodeAt_need_of_length_le 0 s (by simp [hempty])
      obtain ⟨l, hl⟩ := decodeAt_state 0 s
      have hsuspend : orSuspend 0 (decodeAt 0 s) = .suspend (0 + k - s.buf.length) := by
        rw [show decodeAt 0 s = (.need k, { s with lastKey := l }) from Prod.ext hk hl]
        simp [orSuspend, hf]
      simp [fixedStep, hsuspend] at hc

/-- Every committed micro-step is one of the five kinds. -/
theorem microStep_commits {s t : State} (hc : microStep s = .committed t) : MicroCommit s t := by
  have nonempty := microStep_committed_nonempty hc
  unfold microStep at hc
  split at hc
  · cases hc
  · split at hc
    · exact flacStep_commits nonempty hc
    · next hsel => exact fixedStep_commits hsel nonempty hc

end Sys2Proof.Machine

/-! What assembling a frame, parsing a packet and processing a page write, said once: the exact state after
a frame (R172 to R181), the few kinds of effect of a packet parser (R208 to R232), and the steps of a page
(R193 to R204). -/

namespace Sys2Proof.Machine

/-! ### Events that are no unit of the stream -/

/-- A frame or page event. -/
def isUnitEvent : Event → Bool
  | .frame _ | .page _ => true
  | _ => false

/-- At most n events, none a frame or a page: what callbacks, warnings and the sniff queue. -/
def Notes (n : Nat) (q : List Event) : Prop :=
  q.length ≤ n ∧ ∀ e ∈ q, isUnitEvent e = false

theorem notes_nil (n : Nat) : Notes n [] := ⟨Nat.zero_le n, by simp⟩

theorem notes_singleton {e : Event} (h : isUnitEvent e = false) : Notes 1 [e] :=
  ⟨le_rfl, by simpa using h⟩

theorem Notes.append {m n : Nat} {p q : List Event} (a : Notes m p) (b : Notes n q) :
    Notes (m + n) (p ++ q) := by
  refine ⟨?_, fun e he => ?_⟩
  · rw [List.length_append]; exact Nat.add_le_add a.1 b.1
  · rcases List.mem_append.mp he with h | h
    · exact a.2 e h
    · exact b.2 e h

theorem Notes.mono {m n : Nat} {q : List Event} (h : Notes m q) (le : m ≤ n) : Notes n q :=
  ⟨h.1.trans le, h.2⟩

/-- A warning queues at most itself. -/
theorem warn_notes (w : Warning) (off : Nat) (info : WarnInfo) (s : State) :
    ∃ q, warn w off info s = { s with outQ := s.outQ ++ q } ∧ Notes 1 q := by
  rcases warn_cases w off info s with ⟨-, h⟩ | ⟨-, h⟩
  · exact ⟨_, h, notes_singleton rfl⟩
  · exact ⟨[], by rw [h]; simp, notes_nil 1⟩

/-! ### Frames -/

theorem identityOf_eq_identityFields (h : Header) : identityOf h = identityFields h := by
  cases h <;> rfl

theorem frameKey_eq_cacheKeyOf (h : Header) (d : Bytes) (s : State) :
    frameKey h d s = cacheKeyOf h d s.idRaw := by
  cases h <;> rfl

theorem milliseconds_eq_durationOf (samples rate : Nat) :
    milliseconds samples rate = durationOf samples rate := by
  simp [milliseconds, durationOf, Rat.mkRat_eq_div]

theorem samplesAndRate_eq (h : Header) : samplesAndRate h = (headerSamples h, headerSampleRate h) := by
  cases h <;> rfl

theorem frameRecord_eq_assembledFrame (h : Header) (d : Bytes) (o : Option Word64) (c t : Bool)
    (s : State) : frameRecord h d o c t s = assembledFrame h d o c t s := by
  simp [frameRecord, assembledFrame, samplesAndRate_eq, milliseconds_eq_durationOf]

theorem callbacksOf_notes (h : Header) (s : State) : Notes 2 (callbacksOf h s) := by
  refine Notes.append (m := 1) (n := 1) ?_ ?_ <;> split
  · exact notes_singleton rfl
  · exact notes_nil 1
  · exact notes_singleton rfl
  · exact notes_nil 1

theorem announceHeader_eq (h : Header) (s : State) :
    announceHeader h s = { s with
      headerSent := true, outQ := s.outQ ++ if s.headerSent = false then [.codecHeader h] else [] } := by
  unfold announceHeader
  obtain ⟨⟩ := s
  split <;> simp_all [emit]

theorem announceIdentity_eq (i : Identity) (s : State) :
    announceIdentity i s = { s with
      lastAnnounced := some i,
      outQ := s.outQ ++ if s.lastAnnounced ≠ some i then [.codecUpdate i] else [] } := by
  unfold announceIdentity
  obtain ⟨⟩ := s
  split <;> simp_all [emit]

/-- While the cache is enabled, announcing queues the callbacks that are due (R173, R174). -/
theorem announce_eq (h : Header) (s : State) (on : s.cacheEn = true) :
    announce h s = { s with
      headerSent := true, lastAnnounced := some (identityFields h), outQ := s.outQ ++ callbacksOf h s } := by
  rw [announce, identityOf_eq_identityFields, announceIdentity_eq, announceHeader_eq]
  simp [callbacksOf, on]

/-- A store reads the cache alone, so that what else changed before it does not matter. -/
theorem cacheStore_cacheMap_congr {s t : State} (key : Bytes) (h : Header) (i : Identity)
    (en : t.cacheEn = s.cacheEn) (map : t.cacheMap = s.cacheMap) (par : t.par = s.par) :
    (cacheStore key h i t).cacheMap = (cacheStore key h i s).cacheMap := by
  simp only [cacheStore, en, map, par]
  split
  · split
    · rfl
    · split <;> rfl
  · exact map

/-- An enabled store sets lastKey and writes the map alone besides (R169). -/
theorem cacheStore_enabled (key : Bytes) (h : Header) (i : Identity) (s : State)
    (on : s.cacheEn = true) :
    cacheStore key h i s
      = { s with lastKey := some key, cacheMap := (cacheStore key h i s).cacheMap } := by
  rcases cacheStore_cases key h i s with ⟨off, -⟩ | ⟨-, -, e⟩ | ⟨-, -, -, e⟩
  · rw [on] at off; cases off
  · rw [e]
  · rw [e]

/-- While the cache is enabled, a frame is announced and its header stored (R172, R177). -/
theorem noteFrame_enabled (h : Header) (d : Bytes) (s : State) (on : s.cacheEn = true) :
    noteFrame h d s = { s with
      headerSent := true, lastAnnounced := some (identityFields h), outQ := s.outQ ++ callbacksOf h s,
      lastKey := some (cacheKeyOf h d s.idRaw),
      cacheMap := (cacheStore (cacheKeyOf h d s.idRaw) h (identityFields h) s).cacheMap } := by
  have hann := announce_eq h s on
  have hstore := cacheStore_enabled (cacheKeyOf h d s.idRaw) h (identityFields h) (announce h s)
    (by rw [hann]; exact on)
  have hmap := cacheStore_cacheMap_congr (s := s) (t := announce h s) (cacheKeyOf h d s.idRaw) h
    (identityFields h) (by rw [hann]) (by rw [hann]) (by rw [hann])
  rw [noteFrame, if_pos on, frameKey_eq_cacheKeyOf, identityOf_eq_identityFields, hstore, hmap, hann]

/-- The state a frame leaves is the one R169 to R180 describe. -/
theorem countFrame_noteFrame (h : Header) (d : Bytes) (s : State) :
    countFrame h d (noteFrame h d s) = afterFrame h d s := by
  cases on : s.cacheEn with
  | false =>
    simp [noteFrame_disabled h d s on, afterFrame, countFrame, callbacksOf, on, samplesAndRate_eq]
  | true => simp [noteFrame_enabled h d s on, afterFrame, countFrame, on, samplesAndRate_eq]

theorem mapFrame_eq_assembledFrame (h : Header) (d : Bytes) (o : Option Word64) (c t : Bool)
    (s : State) : mapFrame h d o c t s = (assembledFrame h d o c t s, afterFrame h d s) := by
  rw [mapFrame_eq, frameRecord_eq_assembledFrame, countFrame_noteFrame]

/-- A frame at the cursor queues its callbacks, then itself. -/
theorem emitFrame_eq (h : Header) (d : Bytes) (c t : Bool) (s : State) :
    emitFrame h d c t s
      = emit (.frame (assembledFrame h d (some s.pos) c t s)) (afterFrame h d s) := by
  rw [emitFrame, mapFrame_eq_assembledFrame]

/-! ### Packets -/

/-- What a packet parser leaves, by what it did (R208). -/
inductive PacketEffect (s : State) : PacketResult → State → Prop where
  /-- Consumed, or a frame, with lastKey alone written. -/
  | looked (r : PacketResult) (u : State) (look : Relooked s u) : PacketEffect s r u
  /-- Undecodable: a warning, no frame. -/
  | warned (w : Warning) (info : WarnInfo) (u : State) (look : Relooked s u) :
      PacketEffect s .consumed (warn w 0 info u)
  /-- The identification header of the stream, which fits the codec. -/
  | identified (i : IdHeader) (raw : Bytes) (info : Option StreamInfo) (state : Option Nat)
      (fits : idConsistent { s with
        idHeader := some i, idRaw := some raw, streamInfo := info, vorbisState := state } = true) :
      PacketEffect s .consumed { s with
        idHeader := some i, idRaw := some raw, streamInfo := info, vorbisState := state }
  /-- The Vorbis setup packet. -/
  | setup (p : Bytes) : PacketEffect s .consumed { s with vorbisSetup := some p }
  /-- A Vorbis frame, counted in the open state. -/
  | counted (h : Header) (state : Option Nat) : PacketEffect s (.frame h) { s with vorbisState := state }

namespace PacketEffect

theorem unchanged (s : State) (r : PacketResult) : PacketEffect s r s := .looked r s (.refl s)

theorem badPacket {s u : State} (p : Bytes) (look : Relooked s u) :
    PacketEffect s (Machine.badPacket p u).1 (Machine.badPacket p u).2 :=
  .warned _ _ u look

theorem badIdHeader (p : Bytes) (s : State) :
    PacketEffect s (Machine.badIdHeader p s).1 (Machine.badIdHeader p s).2 :=
  .warned _ _ s (.refl s)

theorem opusIdPacket (p : Bytes) (s : State) (hc : s.codec = .opus) :
    PacketEffect s (opusIdPacket p s).1 (opusIdPacket p s).2 := by
  unfold Machine.opusIdPacket
  split
  · exact unchanged s _
  · split
    · next h _ =>
      exact .identified (.opus h) p s.streamInfo s.vorbisState (by simp [idConsistent, hc])
    · exact badIdHeader p s

theorem opusAudioPacket (p : Bytes) (s : State) :
    PacketEffect s (opusAudioPacket p s).1 (opusAudioPacket p s).2 := by
  unfold Machine.opusAudioPacket
  split
  · split
    · exact badPacket p (.refl s)
    · have look : Relooked s (cacheLookup (opusKey s p) s).2 := cacheLookup_state _ s
      simp only
      split
      · exact .looked _ _ look
      · exact badPacket p look
  · exact badPacket p (.refl s)

theorem opusPacket (p : Bytes) (s : State) (hc : s.codec = .opus) :
    PacketEffect s (opusPacket p s).1 (opusPacket p s).2 := by
  unfold Machine.opusPacket
  split
  · exact opusIdPacket p s hc
  · split
    · exact unchanged s _
    · exact opusAudioPacket p s

theorem vorbisIdPacket (p : Bytes) (s : State) (hc : s.codec = .vorbis) :
    PacketEffect s (vorbisIdPacket p s).1 (vorbisIdPacket p s).2 := by
  unfold Machine.vorbisIdPacket
  split
  · exact unchanged s _
  · split
    · next h _ =>
      exact .identified (.vorbis h) p s.streamInfo (some Config.vorbisInitialState)
        (by simp [idConsistent, hc])
    · exact badIdHeader p s

theorem vorbisSetupPacket (p : Bytes) (s : State) :
    PacketEffect s (vorbisSetupPacket p s).1 (vorbisSetupPacket p s).2 := by
  unfold Machine.vorbisSetupPacket
  split
  · exact unchanged s _
  · exact .setup p

theorem vorbisAudioPacket (p : Bytes) (s : State) :
    PacketEffect s (vorbisAudioPacket p s).1 (vorbisAudioPacket p s).2 := by
  unfold Machine.vorbisAudioPacket
  split
  · exact .counted _ _
  · exact badPacket p (.refl s)

theorem vorbisPacket (p : Bytes) (s : State) (hc : s.codec = .vorbis) :
    PacketEffect s (vorbisPacket p s).1 (vorbisPacket p s).2 := by
  unfold Machine.vorbisPacket
  split
  · exact badPacket p (.refl s)
  · split
    · split
      · exact vorbisIdPacket p s hc
      · split
        · exact unchanged s _
        · split
          · exact vorbisSetupPacket p s
          · exact badPacket p (.refl s)
    · exact vorbisAudioPacket p s

theorem oggFlacIdPacket (p : Bytes) (s : State) (hc : s.codec = .flac) :
    PacketEffect s (oggFlacIdPacket p s).1 (oggFlacIdPacket p s).2 := by
  unfold Machine.oggFlacIdPacket
  split
  · exact unchanged s _
  · split
    · next h _ =>
      exact .identified (.flac h) p (some h.streamInfo) s.vorbisState (by simp [idConsistent, hc])
    · exact badIdHeader p s

theorem oggFlacFramePacket (p : Bytes) (s : State) :
    PacketEffect s (oggFlacFramePacket p s).1 (oggFlacFramePacket p s).2 := by
  have look : Relooked s (decodeFlac p s.streamInfo s).2 := decodeFlac_state _ _ s
  unfold Machine.oggFlacFramePacket
  split
  · split
    · next e => rw [e] at look; exact .looked _ _ look
    · next e => rw [e] at look; exact badPacket p look
  · exact badPacket p (.refl s)

theorem oggFlacPacket (p : Bytes) (s : State) (hc : s.codec = .flac) :
    PacketEffect s (oggFlacPacket p s).1 (oggFlacPacket p s).2 := by
  unfold Machine.oggFlacPacket
  split
  · exact oggFlacIdPacket p s hc
  · split
    · exact oggFlacFramePacket p s
    · exact unchanged s _

theorem codecPacket (p : Bytes) (s : State) :
    PacketEffect s (codecPacket p s).1 (codecPacket p s).2 := by
  unfold Machine.codecPacket
  split
  · next hc => exact opusPacket p s hc
  · next hc => exact vorbisPacket p s hc
  · next hc => exact oggFlacPacket p s hc
  all_goals exact unchanged s _

/-- A packet answered with a frame queues nothing of its own; any other at most a warning. -/
theorem notes {s u : State} {r : PacketResult} (h : PacketEffect s r u) :
    ∃ q, u.outQ = s.outQ ++ q ∧ Notes 1 q ∧ ∀ f, r = .frame f → q = [] := by
  cases h with
  | looked r u look =>
    obtain ⟨k, rfl⟩ := look
    exact ⟨[], by simp, notes_nil 1, by simp⟩
  | warned w info u look =>
    obtain ⟨k, rfl⟩ := look
    obtain ⟨q, e, hq⟩ := warn_notes w 0 info { s with lastKey := k }
    exact ⟨q, by rw [e], hq, by simp⟩
  | identified => exact ⟨[], by simp, notes_nil 1, by simp⟩
  | setup => exact ⟨[], by simp, notes_nil 1, by simp⟩
  | counted => exact ⟨[], by simp, notes_nil 1, by simp⟩

end PacketEffect

/-! ### Pages -/

/-- seqCheck writes the two sequence registers and at most one warning (R194). -/
theorem seqCheck_state (h : OggPageHeader) (s : State) :
    ∃ q, seqCheck h s = { s with
        lastSeq := h.pageSequenceNumber, pagesSeen := min 2 (s.pagesSeen + 1), outQ := s.outQ ++ q }
      ∧ Notes 1 q := by
  unfold seqCheck
  simp only
  split
  · obtain ⟨q, e, hq⟩ := warn_notes .oggSeqGap 0 (.sequence s.lastSeq h.pageSequenceNumber) s
    exact ⟨q, by rw [e], hq⟩
  · exact ⟨[], by simp, notes_nil 1⟩

/-- setPending writes pending, within its bound, and at most one warning (R200). -/
theorem setPending_state (p : Bytes) (s : State) :
    ∃ b q, setPending p s = { s with pending := b, outQ := s.outQ ++ q } ∧ Notes 1 q
      ∧ b.length ≤ s.par.pendCap := by
  unfold setPending
  split
  · next fits => exact ⟨p, [], by simp, notes_nil 1, fits⟩
  · obtain ⟨q, e, hq⟩ := warn_notes .pendingOverflow 0 (.length p.length) { s with pending := [] }
    exact ⟨[], q, e, hq, Nat.zero_le _⟩

theorem prependPending_state (pk : List PagePacket) (s : State) :
    (prependPending pk s).2 = s ∨ (prependPending pk s).2 = { s with pending := [] } := by
  unfold prependPending
  split
  · split <;> simp
  · exact .inl rfl

theorem prependPending_length (pk : List PagePacket) (s : State) :
    (prependPending pk s).1.length = pk.length := by
  unfold prependPending
  split
  · split <;> simp
  · rfl

theorem holdBack_state (pk : List PagePacket) (s : State) :
    ∃ b q, (holdBack pk s).2 = { s with pending := b, outQ := s.outQ ++ q } ∧ Notes 1 q
      ∧ (b.length ≤ s.par.pendCap ∨ b = s.pending) := by
  unfold holdBack
  split
  · next p _ =>
    obtain ⟨b, q, e, hq, fits⟩ := setPending_state p s
    exact ⟨b, q, e, hq, .inl fits⟩
  · exact ⟨s.pending, [], by simp, notes_nil 1, .inr rfl⟩

theorem holdBack_length (pk : List PagePacket) (s : State) : (holdBack pk s).1.length ≤ pk.length := by
  unfold holdBack
  split <;> simp

/-- Reassembly writes pending, keeping its bound, and at most one warning (R198). -/
theorem continuation_state (pk : List PagePacket) (s : State) :
    ∃ b q, (continuation pk s).2 = { s with pending := b, outQ := s.outQ ++ q } ∧ Notes 1 q
      ∧ (s.pending.length ≤ s.par.pendCap → b.length ≤ s.par.pendCap) := by
  obtain ⟨b, q, e, hq, fits⟩ := holdBack_state (prependPending pk s).1 (prependPending pk s).2
  change ∃ b q, (holdBack (prependPending pk s).1 (prependPending pk s).2).2 = _ ∧ _
  rcases prependPending_state pk s with hp | hp <;> rw [hp] at e fits ⊢
  · refine ⟨b, q, e, hq, fun bound => ?_⟩
    rcases fits with fits | rfl
    · exact fits
    · exact bound
  · refine ⟨b, q, e, hq, fun _ => ?_⟩
    rcases fits with fits | rfl
    · exact fits
    · exact Nat.zero_le _

theorem continuation_length (pk : List PagePacket) (s : State) :
    (continuation pk s).1.length ≤ pk.length := by
  have h := holdBack_length (prependPending pk s).1 (prependPending pk s).2
  rwa [prependPending_length] at h

/-- There are at most as many packets as lacing values (R197). -/
theorem splitPackets_length (table body cur : Bytes) :
    (splitPackets table body cur).length ≤ table.length := by
  induction table generalizing body cur with
  | nil => exact Nat.zero_le _
  | cons v rest ih =>
    unfold splitPackets
    simp only
    split
    · exact Nat.succ_le_succ (ih _ _)
    · split
      · simp
      · exact (ih _ _).trans (Nat.le_succ _)

/-- The packets of a page that are complete with it, and the state after reassembly (R193 to R198). -/
def pagePackets (h : OggPageHeader) (s : State) : List Bytes × State :=
  continuation (splitPackets h.segmentTable
    (slice (s.buf.take h.pageLength) h.headerLength h.pageLength) []) (seqCheck h s)

/-- Whether the codec is known, after the sniff where none was set (R201). -/
def recognise (pk : List Bytes) (s : State) : Bool × State :=
  if s.codec = .unset then sniff pk s else (true, s)

/-- The steps of processPage up to its advance, R193. -/
theorem pageEffects_eq (h : OggPageHeader) (c : Bool) (s : State) :
    pageEffects h c s =
      let pk := (pagePackets h s).1
      let r := recognise pk (pagePackets h s).2
      if r.1 then
        emitPage h (s.buf.take h.pageLength) (dispatchPackets pk c r.2).1 c (dispatchPackets pk c r.2).2
      else r.2 := rfl

theorem pagePackets_length (h : OggPageHeader) (s : State) :
    (pagePackets h s).1.length ≤ h.segmentTable.length :=
  (continuation_length _ _).trans (splitPackets_length _ _ _)

/-- The sequence check and the reassembly write the sequence registers, pending and two warnings. -/
theorem pagePackets_state (h : OggPageHeader) (s : State) :
    ∃ b q, (pagePackets h s).2 = { s with
        lastSeq := h.pageSequenceNumber, pagesSeen := min 2 (s.pagesSeen + 1), pending := b,
        outQ := s.outQ ++ q }
      ∧ Notes 2 q ∧ (s.pending.length ≤ s.par.pendCap → b.length ≤ s.par.pendCap) := by
  obtain ⟨q, e, hq⟩ := seqCheck_state h s
  obtain ⟨b, q', e', hq', bound⟩ := continuation_state (splitPackets h.segmentTable
    (slice (s.buf.take h.pageLength) h.headerLength h.pageLength) []) (seqCheck h s)
  rw [e] at bound
  refine ⟨b, q ++ q', ?_, hq.append hq', bound⟩
  rw [pagePackets, e', e, List.append_assoc]

/-- The codecs a signature gives are those of Ogg streams (R65). -/
theorem sniffCodec_ogg {p : Bytes} {c : Codec} (h : sniffCodec p = some c) :
    c = .opus ∨ c = .flac ∨ c = .vorbis := by
  unfold sniffCodec at h
  split at h
  · cases h; simp
  split at h
  · cases h; simp
  split at h
  · cases h; simp
  · cases h

/-- The sniff keeps a codec that is set; else it sets and queues the one found, or nothing (R201). -/
theorem recognise_cases (pk : List Bytes) (s : State) :
    (recognise pk s).2 = s
      ∨ ∃ c, s.codec = .unset ∧ (c = .opus ∨ c = .flac ∨ c = .vorbis)
          ∧ (recognise pk s).2 = { s with codec := c, outQ := s.outQ ++ [.codec c] } := by
  unfold recognise
  split
  · next hu =>
    unfold sniff
    split
    · exact .inl rfl
    · split
      · next c hc => exact .inr ⟨c, hu, sniffCodec_ogg hc, rfl⟩
      · exact .inl rfl
  · exact .inl rfl

end Sys2Proof.Machine

/-! Every step keeps the host invariant (R20 to R32, R91, R162). The invariant is taken in two parts: one
over the fields that parsing leaves alone, and one over the cache, the stream and the identification. -/

namespace Sys2Proof.Machine

/-! ### The two parts of the invariant -/

/-- The part of the host invariant over the input, the parameters and the sync mode. -/
structure InputInv (s : State) : Prop where
  noRequest : s.unitReq = none
  legal : Config.Legal s.par = true
  bufBound : s.buf.length ≤ s.par.bufCap
  counted : s.totalIn = s.pos + BitVec.ofNat 64 s.buf.length
  cacheMode : s.cacheEn = true ↔ s.mode = .synced

/-- The part of the host invariant over the continuation buffer, the cache, the codec and the
identification header. -/
structure StreamInv (s : State) : Prop where
  pendBound : s.pending.length ≤ s.par.pendCap
  disabledEmpty : s.cacheEn = false → s.cacheMap = []
  sorted : cacheSorted s.cacheMap = true
  size : s.cacheMap.length ≤ s.par.cacheEntries
  pages : s.pagesSeen ≤ 2
  codec : codecConsistent s = true
  ident : idConsistent s = true

theorem hostInv_iff (s : State) : HostInv s ↔ InputInv s ∧ StreamInv s := by
  unfold HostInv
  rw [memory_wf_iff]
  constructor
  · rintro ⟨noRequest, legal, ⟨bufBound, pendBound⟩, counted, cacheMode, disabledEmpty, sorted, size,
      pages, codec, ident⟩
    exact ⟨⟨noRequest, legal, bufBound, counted, cacheMode⟩,
      ⟨pendBound, disabledEmpty, sorted, size, pages, codec, ident⟩⟩
  · rintro ⟨i, t⟩
    exact ⟨i.noRequest, i.legal, ⟨i.bufBound, t.pendBound⟩, i.counted, i.cacheMode, t.disabledEmpty,
      t.sorted, t.size, t.pages, t.codec, t.ident⟩

/-! ### Input and mode -/

theorem InputInv.ofSameInput {s t : State} (h : InputInv s) (same : SameInput s t) : InputInv t where
  noRequest := by rw [same.unitReq]; exact h.noRequest
  legal := by rw [same.par]; exact h.legal
  bufBound := by rw [same.buf, same.par]; exact h.bufBound
  counted := by rw [same.totalIn, same.pos, same.buf]; exact h.counted
  cacheMode := by rw [same.cacheEn, same.mode]; exact h.cacheMode

/-- Bytes taken off the head move the cursor by as many, so that the count still holds (R22). -/
theorem InputInv.advanceBy {s : State} (h : InputInv s) {n : Nat} (inside : n ≤ s.buf.length) :
    InputInv (advanceBy n s) where
  noRequest := h.noRequest
  legal := h.legal
  bufBound := by
    rw [advanceBy_buf, List.length_drop]
    exact (Nat.sub_le _ _).trans h.bufBound
  counted := by
    simp only [advanceBy_totalIn, advanceBy_pos, advanceBy_buf, List.length_drop, h.counted]
    rw [BitVec.add_assoc, ← BitVec.ofNat_add, Nat.add_sub_cancel' inside]
  cacheMode := h.cacheMode

theorem InputInv.gainSync {s : State} (h : InputInv s) : InputInv (gainSync s) :=
  ⟨h.noRequest, h.legal, h.bufBound, h.counted, ⟨fun _ => rfl, fun _ => rfl⟩⟩

theorem InputInv.resync {s : State} (h : InputInv s) (w : Warning) (nonempty : s.buf ≠ []) :
    InputInv (resync w s) := by
  have hw := h.ofSameInput (SameInput.warn w 0 .absent s)
  have lost : InputInv (cacheReset { warn w 0 .absent s with mode := .seeking }) :=
    ⟨hw.noRequest, hw.legal, hw.bufBound, hw.counted, by simp [cacheReset]⟩
  refine lost.advanceBy ?_
  change 1 ≤ (warn w 0 .absent s).buf.length
  rw [(SameInput.warn w 0 .absent s).buf]
  exact List.length_pos_iff.mpr nonempty

/-! ### The stream part: what it does not depend on -/

/-- Events, announcements, counters, lastKey and the Vorbis registers are not in the invariant. -/
theorem StreamInv.report {s : State} (h : StreamInv s) (key : Option Bytes) (ann : Option Identity)
    (sent : Bool) (no bytes samples : Word64) (rate : Nat) (setup : Option Bytes) (vs : Option Nat)
    (q : List Event) :
    StreamInv { s with
      lastKey := key, lastAnnounced := ann, headerSent := sent, frameNo := no, totalBytesOut := bytes,
      totalSamples := samples, curRate := rate, vorbisSetup := setup, vorbisState := vs, outQ := q } :=
  ⟨h.pendBound, h.disabledEmpty, h.sorted, h.size, h.pages, h.codec, h.ident⟩

theorem StreamInv.relooked {s u : State} (h : StreamInv s) (look : Relooked s u) : StreamInv u := by
  obtain ⟨k, rfl⟩ := look
  exact h.report k s.lastAnnounced s.headerSent s.frameNo s.totalBytesOut s.totalSamples s.curRate
    s.vorbisSetup s.vorbisState s.outQ

theorem StreamInv.queued {s : State} (h : StreamInv s) (q : List Event) :
    StreamInv { s with outQ := q } :=
  h.report s.lastKey s.lastAnnounced s.headerSent s.frameNo s.totalBytesOut s.totalSamples s.curRate
    s.vorbisSetup s.vorbisState q

theorem StreamInv.warn {s : State} (h : StreamInv s) (w : Warning) (off : Nat) (info : WarnInfo) :
    StreamInv (warn w off info s) := by
  obtain ⟨q, e, -⟩ := warn_outQ_only w off info s
  rw [e]
  exact h.queued _

theorem StreamInv.advanceBy {s : State} (h : StreamInv s) (n : Nat) : StreamInv (advanceBy n s) :=
  ⟨h.pendBound, h.disabledEmpty, h.sorted, h.size, h.pages, h.codec, h.ident⟩

theorem StreamInv.gainSync {s : State} (h : StreamInv s) : StreamInv (gainSync s) :=
  ⟨h.pendBound, by simp [Machine.gainSync], h.sorted, h.size, h.pages, h.codec, h.ident⟩

theorem StreamInv.resync {s : State} (h : StreamInv s) (w : Warning) : StreamInv (resync w s) := by
  have hw := h.warn w 0 .absent
  exact ⟨hw.pendBound, fun _ => rfl, rfl, Nat.zero_le _, hw.pages, hw.codec, hw.ident⟩

/-! ### The stream part: frames, packets, pages -/

/-- A frame stores its header in a canonical map within its size, and nothing while disabled (R169). -/
theorem StreamInv.afterFrame {s : State} (h : StreamInv s) (hd : Header) (d : Bytes) :
    StreamInv (afterFrame hd d s) := by
  have form := cacheStore_form (cacheKeyOf hd d s.idRaw) hd (identityFields hd) s h.sorted h.size
  cases on : s.cacheEn with
  | false =>
    have noMap : (Machine.afterFrame hd d s).cacheMap = s.cacheMap := by simp [Machine.afterFrame, on]
    exact ⟨h.pendBound, fun _ => noMap.trans (h.disabledEmpty on), by rw [noMap]; exact h.sorted,
      by rw [noMap]; exact h.size, h.pages, h.codec, h.ident⟩
  | true =>
    have map : (Machine.afterFrame hd d s).cacheMap
        = (cacheStore (cacheKeyOf hd d s.idRaw) hd (identityFields hd) s).cacheMap := by
      simp [Machine.afterFrame, on]
    exact ⟨h.pendBound, fun off => absurd (on.symm.trans off) (by decide), by rw [map]; exact form.1,
      by rw [map]; exact form.2, h.pages, h.codec, h.ident⟩

theorem StreamInv.emitFrame {s : State} (h : StreamInv s) (hd : Header) (d : Bytes) (c t : Bool) :
    StreamInv (emitFrame hd d c t s) := by
  rw [emitFrame_eq]
  exact (h.afterFrame hd d).queued _

theorem StreamInv.packetEffect {s u : State} {r : PacketResult} (h : StreamInv s)
    (e : PacketEffect s r u) : StreamInv u := by
  cases e with
  | looked _ _ look => exact h.relooked look
  | warned w info v look => exact (h.relooked look).warn w 0 info
  | identified i raw info state fits =>
    exact ⟨h.pendBound, h.disabledEmpty, h.sorted, h.size, h.pages, h.codec, fits⟩
  | setup p =>
    exact h.report s.lastKey s.lastAnnounced s.headerSent s.frameNo s.totalBytesOut s.totalSamples
      s.curRate (some p) s.vorbisState s.outQ
  | counted hd state =>
    exact h.report s.lastKey s.lastAnnounced s.headerSent s.frameNo s.totalBytesOut s.totalSamples
      s.curRate s.vorbisSetup state s.outQ

theorem StreamInv.dispatchPackets {s : State} (h : StreamInv s) (pk : List Bytes) (c : Bool) :
    StreamInv (dispatchPackets pk c s).2 := by
  induction pk generalizing s with
  | nil => exact h
  | cons p rest ih =>
    have hp := h.packetEffect (PacketEffect.codecPacket p s)
    unfold Machine.dispatchPackets
    split
    · next hd u e =>
      rw [e] at hp
      simp only [mapFrame_eq_assembledFrame]
      exact ih (hp.afterFrame hd p)
    · next e =>
      rw [e] at hp
      exact ih hp

/-- In OGG mode the codec register of a configured machine is any but MPEG and AAC (R29). -/
theorem codecConsistent_ogg {s : State} (ogg : s.codecSel = 3) :
    codecConsistent s = true ↔ s.configured = true ∧ s.codec ≠ .mpeg ∧ s.codec ≠ .aac := by
  unfold codecConsistent
  cases s.configured <;> simp [ogg]

theorem StreamInv.pagePackets {s : State} (h : StreamInv s) (hd : OggPageHeader) :
    StreamInv (pagePackets hd s).2 := by
  obtain ⟨b, q, e, -, bound⟩ := pagePackets_state hd s
  rw [e]
  exact ⟨bound h.pendBound, h.disabledEmpty, h.sorted, h.size, Nat.min_le_left _ _, h.codec, h.ident⟩

/-- Without a codec there is no identification header, so that setting the codec contradicts none (R32). -/
theorem idHeader_none_of_unset {s : State} (h : idConsistent s = true) (unset : s.codec = .unset) :
    s.idHeader = none ∧ s.idRaw = none := by
  unfold idConsistent at h
  split at h <;> simp_all

theorem StreamInv.recognise {s : State} (h : StreamInv s) (ogg : s.codecSel = 3) (pk : List Bytes) :
    StreamInv (recognise pk s).2 := by
  rcases recognise_cases pk s with e | ⟨c, unset, sniffed, e⟩
  · rw [e]; exact h
  · obtain ⟨noId, noRaw⟩ := idHeader_none_of_unset h.ident unset
    have configured := ((codecConsistent_ogg ogg).mp h.codec).1
    rw [e]
    refine ⟨h.pendBound, h.disabledEmpty, h.sorted, h.size, h.pages, ?_,
      by simp [idConsistent, noId, noRaw]⟩
    rw [codecConsistent_ogg (by exact ogg)]
    refine ⟨configured, ?_⟩
    rcases sniffed with rfl | rfl | rfl <;> simp

theorem StreamInv.pageEffects {s : State} (h : StreamInv s) (ogg : s.codecSel = 3)
    (hd : OggPageHeader) (c : Bool) : StreamInv (pageEffects hd c s) := by
  have hpk := h.pagePackets hd
  obtain ⟨b, q, e, -⟩ := pagePackets_state hd s
  have hr := hpk.recognise (by rw [e]; exact ogg) (Machine.pagePackets hd s).1
  rw [pageEffects_eq]
  simp only
  split
  · exact (hr.dispatchPackets _ c).queued _
  · exact hr

theorem StreamInv.truncatedPage {s : State} (h : StreamInv s) (hd : OggPageHeader) :
    StreamInv (truncatedPage hd s) := by
  unfold Machine.truncatedPage
  simp only
  split
  · exact h.advanceBy _
  · exact (h.queued _).advanceBy _

theorem InputInv.truncatedPage {s : State} (h : InputInv s) (hd : OggPageHeader) :
    InputInv (truncatedPage hd s) := by
  unfold Machine.truncatedPage
  simp only
  split
  · exact h.advanceBy le_rfl
  · exact (h.ofSameInput (SameInput.emit _ s)).advanceBy le_rfl

/-! ### Micro-steps -/

theorem AtCursor.inputInv {s u : State} (h : InputInv s) (cursor : AtCursor s u) : InputInv u := by
  obtain ⟨v, look, rfl | rfl⟩ := cursor
  · exact h.ofSameInput look.sameInput
  · exact (h.ofSameInput look.sameInput).gainSync

theorem AtCursor.streamInv {s u : State} (h : StreamInv s) (cursor : AtCursor s u) : StreamInv u := by
  obtain ⟨v, look, rfl | rfl⟩ := cursor
  · exact h.relooked look
  · exact (h.relooked look).gainSync

theorem AtCursor.codecSel_eq {s u : State} (cursor : AtCursor s u) : u.codecSel = s.codecSel := by
  obtain ⟨v, look, rfl | rfl⟩ := cursor <;> exact look.sameInput.codecSel

theorem MicroCommit.inputInv {s t : State} (h : InputInv s) (hc : MicroCommit s t) : InputInv t := by
  cases hc with
  | skipped u look nonempty =>
    refine (h.ofSameInput look.sameInput).advanceBy ?_
    rw [look.sameInput.buf]
    exact List.length_pos_iff.mpr nonempty
  | resynced w u look nonempty =>
    exact (h.ofSameInput look.sameInput).resync w (by rw [look.sameInput.buf]; exact nonempty)
  | frame hd n c tr u cursor inside =>
    refine ((cursor.inputInv h).ofSameInput (SameInput.emitFrame _ _ _ _ u)).advanceBy ?_
    rw [(SameInput.emitFrame _ _ _ _ u).buf, cursor.buf_eq]
    exact inside
  | page hd c u cursor ogg segments inside =>
    refine ((cursor.inputInv h).ofSameInput (SameInput.pageEffects hd c u)).advanceBy ?_
    rw [(SameInput.pageEffects hd c u).buf, cursor.buf_eq]
    exact inside
  | cutPage hd u cursor => exact (cursor.inputInv h).truncatedPage hd

theorem MicroCommit.streamInv {s t : State} (h : StreamInv s) (hc : MicroCommit s t) : StreamInv t := by
  cases hc with
  | skipped u look _ => exact (h.relooked look).advanceBy 1
  | resynced w u look _ => exact (h.relooked look).resync w
  | frame hd n c tr u cursor _ => exact ((cursor.streamInv h).emitFrame _ _ _ _).advanceBy n
  | page hd c u cursor ogg _ _ =>
    exact ((cursor.streamInv h).pageEffects (cursor.codecSel_eq.trans ogg) hd c).advanceBy _
  | cutPage hd u cursor => exact (cursor.streamInv h).truncatedPage hd

/-- A committed micro-step keeps the host invariant. -/
theorem hostInv_microStep {s t : State} (h : HostInv s) (hc : microStep s = .committed t) :
    HostInv t := by
  obtain ⟨input, stream⟩ := (hostInv_iff s).mp h
  have commit := microStep_commits hc
  exact (hostInv_iff t).mpr ⟨commit.inputInv input, commit.streamInv stream⟩

/-! ### Resets and commands -/

/-- The queue, the channel and the response are not in the invariant. -/
theorem HostInv.hostSide {s : State} (h : HostInv s) (q : List Event) (chan : Bytes)
    (resp : Option Response) : HostInv { s with outQ := q, chan := chan, resp := resp } := h

/-- A cleared stream meets the invariant under any consistent configuration. -/
theorem hostInv_of_cleared {s t : State} (h : HostInv s) (codec : Codec) (configured : Bool)
    (sel : BitVec 2) (log crc : Bool) (q : List Event)
    (ht : t = { clearStream s with
      configured := configured, codecSel := sel, logEn := log, crc32En := crc, codec := codec, outQ := q })
    (consistent : codecConsistent t = true) : HostInv t := by
  obtain ⟨input, -⟩ := (hostInv_iff s).mp h
  subst ht
  refine (hostInv_iff _).mpr ⟨⟨input.noRequest, input.legal, Nat.zero_le _, rfl, by simp⟩, ?_⟩
  exact ⟨Nat.zero_le _, fun _ => rfl, rfl, Nat.zero_le _, Nat.zero_le _, consistent, rfl⟩

theorem hostInv_fullReset {s : State} (h : HostInv s) : HostInv (fullReset s) :=
  hostInv_of_cleared h .unset false 0 false false [] rfl rfl

theorem hostInv_configure {s : State} (h : HostInv s) (sel : BitVec 3) (log crc : Bool)
    (supported : sel.toNat < 4) : HostInv (configure sel log crc s) := by
  refine hostInv_of_cleared h _ _ _ _ _ _ (configure_eq s sel log crc supported) ?_
  rw [configure_eq s sel log crc supported]
  have small : sel = 0 ∨ sel = 1 ∨ sel = 2 ∨ sel = 3 := by bv_omega
  rcases small with rfl | rfl | rfl | rfl <;> rfl

/-- A completed flush keeps the codec that the configuration gives, and unsets it in OGG mode (R161). -/
theorem hostInv_flushComplete {s : State} (h : HostInv s) (configured : s.configured = true) :
    HostInv (flushComplete s) := by
  obtain ⟨-, stream⟩ := (hostInv_iff s).mp h
  refine hostInv_of_cleared h _ s.configured s.codecSel s.logEn s.crc32En s.outQ rfl ?_
  by_cases ogg : s.codecSel = 3
  · rw [codecConsistent_ogg (by exact ogg)]
    exact ⟨configured, by simp [ogg], by simp [ogg]⟩
  · have codec := stream.codec
    simp only [codecConsistent, configured, if_true, flushComplete_codecSel, flushComplete_configured,
      flushComplete_codec, if_neg ogg] at codec ⊢
    exact codec

theorem hostInv_appendBytes {s : State} (h : HostInv s) (d : Bytes)
    (room : s.buf.length + d.length ≤ s.par.bufCap) : HostInv (appendBytes d s) := by
  obtain ⟨input, stream⟩ := (hostInv_iff s).mp h
  refine (hostInv_iff _).mpr ⟨⟨input.noRequest, input.legal, ?_, ?_, input.cacheMode⟩, ?_⟩
  · simpa using room
  · simp only [appendBytes_totalIn, appendBytes_pos, appendBytes_buf, List.length_append, input.counted,
      BitVec.ofNat_add, BitVec.add_assoc]
  · exact ⟨stream.pendBound, stream.disabledEmpty, stream.sorted, stream.size, stream.pages, stream.codec,
      stream.ident⟩

theorem hostInv_flush {s : State} (h : HostInv s) (configured : s.configured = true) :
    HostInv { s with flushing := true } := by
  obtain ⟨input, stream⟩ := (hostInv_iff s).mp h
  refine (hostInv_iff _).mpr
    ⟨⟨input.noRequest, input.legal, input.bufBound, input.counted, input.cacheMode⟩, ?_⟩
  refine ⟨stream.pendBound, stream.disabledEmpty, stream.sorted, stream.size, stream.pages, ?_,
    stream.ident⟩
  have codec := stream.codec
  simpa only [codecConsistent, configured, if_true] using codec

/-- PULL's loop keeps the invariant: by committed micro-steps, then by one of its three ends (R78). -/
theorem hostInv_pullLoop {s t : State} (turns : Nat) (h : HostInv s) (configured : s.configured = true)
    (hp : pullLoop turns s = .next t) : HostInv t := by
  have keep : ∀ u v : State, HostInv u ∧ u.configured = true → u.outQ = [] →
      microStep u = .committed v → HostInv v ∧ v.configured = true :=
    fun u v hu _ hc =>
      ⟨hostInv_microStep hu.1 hc, (microStep_sameControl u v hc).configured.trans hu.2⟩
  obtain ⟨u, ⟨hu, conf⟩, ⟨e, rest, -, rfl⟩ | ⟨n, -, -, rfl⟩ | ⟨v, -, hm, rfl⟩⟩ :=
    pullLoop_next keep turns s t ⟨h, configured⟩ hp
  · exact hu.hostSide rest u.chan _
  · exact hu.hostSide u.outQ u.chan _
  · obtain ⟨-, -, rfl⟩ := microStep_flushed u v hm
    exact (hostInv_flushComplete hu conf).hostSide _ _ _

theorem zeroOperand_whole {w : Word32} {width : Nat} {i j : Instr}
    (h : zeroOperand w width j = .whole i) : i = j := by
  unfold zeroOperand at h
  split at h <;> cases h
  rfl

theorem hostCommand_of_decodeCommandWord {w : Word32} {i : Instr}
    (h : decodeCommandWord w = .whole i) : Laws.hostCommand i = true := by
  unfold decodeCommandWord at h
  split at h
  · rw [zeroOperand_whole h]; rfl
  · cases h
  · rw [zeroOperand_whole h]; rfl
  · rw [zeroOperand_whole h]; rfl
  · rw [zeroOperand_whole h]; rfl
  · rw [zeroOperand_whole h]; rfl
  · cases h

/-- The channel decodes to host commands alone (R56). -/
theorem hostCommand_of_decodeChannel {b rest : Bytes} {i : Instr}
    (h : decodeChannel b = .command i rest) : Laws.hostCommand i = true := by
  unfold decodeChannel at h
  split at h
  · split at h
    · next e => cases h; exact hostCommand_of_decodeCommandWord e
    · split at h <;> cases h
      rfl
    · cases h
  · cases h

/-- A host command keeps the invariant. -/
theorem hostInv_exec {s t : State} {i : Instr} (h : HostInv s) (host : Laws.hostCommand i = true)
    (he : exec i s = .next t) : HostInv t := by
  cases i with
  | config sel log crc =>
    change execConfig sel log crc s = .next t at he
    by_cases supported : sel.toNat < 4
    · rw [execConfig_supported s sel log crc supported] at he
      cases he
      exact (hostInv_configure h sel log crc supported).hostSide _ _ _
    · rw [execConfig_unsupported s sel log crc (Nat.not_lt.mp supported)] at he
      cases he
      exact (hostInv_fullReset h).hostSide _ _ _
  | push d =>
    change execPush d s = .next t at he
    unfold execPush at he
    split at he
    · cases he; exact h.hostSide _ _ _
    split at he
    · cases he; exact h.hostSide _ _ _
    · cases he
      have bound := ((hostInv_iff s).mp h).1.bufBound
      refine (hostInv_appendBytes h _ ?_).hostSide _ _ _
      rw [List.length_take]
      omega
  | pull =>
    change execPull s = .next t at he
    unfold execPull at he
    split at he
    · cases he; exact h.hostSide _ _ _
    · next conf => exact hostInv_pullLoop _ h (by simpa using conf) he
  | flush =>
    change execFlush s = .next t at he
    cases conf : s.configured with
    | false =>
      rw [execFlush_unconfigured s conf] at he
      cases he
      exact h.hostSide _ _ _
    | true =>
      rw [execFlush_configured s conf] at he
      cases he
      exact (hostInv_flush h conf).hostSide _ _ _
  | getcodec => cases he; exact h.hostSide _ _ _
  | rdreg reg =>
    change execRdreg reg s = .next t at he
    cases hv : readRegister s reg.toNat with
    | some v =>
      rw [execRdreg_some s reg v hv] at he
      cases he
      exact h.hostSide _ _ _
    | none =>
      rw [execRdreg_none s reg hv] at he
      cases he
      exact h.hostSide _ _ _
  | _ => cases host

/-! ### The step, by what the command channel holds -/

theorem step_of_incomplete {s : State} (noRequest : s.unitReq = none)
    (hd : decodeChannel s.chan = .incomplete) : step s = .next s := by
  simp only [step, fetch, noRequest, hd]

theorem step_of_illegal {s : State} {e : DecodeError} {rest : Bytes} (noRequest : s.unitReq = none)
    (hd : decodeChannel s.chan = .illegal e rest) :
    step s = .next { s with chan := rest, resp := some (.err .badCmd) } := by
  obtain ⟨⟩ := s
  simp only at noRequest hd
  subst noRequest
  simp only [step, fetch, hd, raiseError_eq]

theorem step_of_command {s : State} {i : Instr} {rest : Bytes} (noRequest : s.unitReq = none)
    (hd : decodeChannel s.chan = .command i rest) : step s = exec i { s with chan := rest } := by
  obtain ⟨⟩ := s
  simp only at noRequest hd
  subst noRequest
  simp only [step, fetch, hd]

/-- Settles O46: with no unit request pending the step is idle, refuses a word, or runs a host command. -/
theorem hostInvariantIsKept : Obligations.HostInvariantIsKept := by
  intro s t h hstep
  have noRequest : s.unitReq = none := ((hostInv_iff s).mp h).1.noRequest
  cases hd : decodeChannel s.chan with
  | incomplete =>
    rw [step_of_incomplete noRequest hd] at hstep
    cases hstep
    exact h
  | illegal e rest =>
    rw [step_of_illegal noRequest hd] at hstep
    cases hstep
    exact h.hostSide _ _ _
  | command i rest =>
    rw [step_of_command noRequest hd] at hstep
    exact hostInv_exec (h.hostSide s.outQ rest s.resp) (hostCommand_of_decodeChannel hd) hstep

end Sys2Proof.Machine

/-! What a committed micro-step queues: notes (warnings, callbacks, CODEC), then at most one unit, whose
data is what buffer and cursor move by (R33, R35, R36, R148, R204). -/

namespace Sys2Proof.Machine

/-- From s to t at most n notes are queued, and nothing else. -/
def QueuesNotes (n : Nat) (s t : State) : Prop :=
  ∃ q, t.outQ = s.outQ ++ q ∧ Notes n q

theorem QueuesNotes.of_outQ_eq {s t : State} (n : Nat) (h : t.outQ = s.outQ) : QueuesNotes n s t :=
  ⟨[], by rw [h, List.append_nil], notes_nil n⟩

theorem QueuesNotes.trans {m n : Nat} {s t u : State} (a : QueuesNotes m s t) (b : QueuesNotes n t u) :
    QueuesNotes (m + n) s u := by
  obtain ⟨p, hp, np⟩ := a
  obtain ⟨q, hq, nq⟩ := b
  exact ⟨p ++ q, by rw [hq, hp, List.append_assoc], np.append nq⟩

theorem QueuesNotes.mono {m n : Nat} {s t : State} (h : QueuesNotes m s t) (le : m ≤ n) :
    QueuesNotes n s t := by
  obtain ⟨q, e, nq⟩ := h
  exact ⟨q, e, nq.mono le⟩

/-! ### Frames and pages -/

theorem afterFrame_queuesNotes (h : Header) (d : Bytes) (s : State) :
    QueuesNotes 2 s (afterFrame h d s) :=
  ⟨callbacksOf h s, rfl, callbacksOf_notes h s⟩

/-- A packet gives a warning or a frame with its two callbacks, so that at most two notes come of it. -/
theorem dispatchPackets_queuesNotes (pk : List Bytes) (c : Bool) (s : State) :
    QueuesNotes (2 * pk.length) s (dispatchPackets pk c s).2 := by
  induction pk generalizing s with
  | nil => exact .of_outQ_eq _ rfl
  | cons p rest ih =>
    obtain ⟨q, e, nq, silent⟩ := (PacketEffect.codecPacket p s).notes
    have count : 2 + 2 * rest.length = 2 * (p :: rest).length := by
      rw [List.length_cons]; omega
    rw [← count]
    unfold dispatchPackets
    split
    · next hd u hp =>
      rw [hp] at e silent
      simp only [mapFrame_eq_assembledFrame]
      have quiet : u.outQ = s.outQ := by rw [e, silent hd rfl, List.append_nil]
      have framed : QueuesNotes 2 s (afterFrame hd p u) := by
        obtain ⟨q', e', nq'⟩ := afterFrame_queuesNotes hd p u
        exact ⟨q', by rw [e', quiet], nq'⟩
      exact framed.trans (ih _)
    · next hp =>
      rw [hp] at e
      exact QueuesNotes.trans ⟨q, e, nq.mono (by omega)⟩ (ih _)

theorem pagePackets_queuesNotes (h : OggPageHeader) (s : State) :
    QueuesNotes 2 s (pagePackets h s).2 := by
  obtain ⟨b, q, e, nq, -⟩ := pagePackets_state h s
  exact ⟨q, by rw [e], nq⟩

theorem recognise_queuesNotes (pk : List Bytes) (s : State) : QueuesNotes 1 s (recognise pk s).2 := by
  rcases recognise_cases pk s with e | ⟨c, -, -, e⟩
  · exact .of_outQ_eq _ (by rw [e])
  · exact ⟨[.codec c], by rw [e], notes_singleton rfl⟩

/-- A page queues its notes and then, its codec known, itself (R204). -/
theorem pageEffects_queue (h : OggPageHeader) (c : Bool) (s : State)
    (segments : h.segmentTable.length ≤ 255) :
    ∃ u, QueuesNotes 513 s u ∧ u.pos = s.pos ∧ ((pageEffects h c s).outQ = u.outQ
      ∨ ∃ frames, (pageEffects h c s).outQ
          = u.outQ ++ [.page (pageRecord h (s.buf.take h.pageLength) frames c false u)]) := by
  have packets := pagePackets_queuesNotes h s
  have sniffed := packets.trans (recognise_queuesNotes (pagePackets h s).1 (pagePackets h s).2)
  obtain ⟨b, q, hpk, -⟩ := pagePackets_state h s
  have pos : (recognise (pagePackets h s).1 (pagePackets h s).2).2.pos = s.pos := by
    rcases recognise_cases (pagePackets h s).1 (pagePackets h s).2 with e | ⟨_, -, -, e⟩ <;> rw [e, hpk]
  have few : (pagePackets h s).1.length ≤ 255 := (pagePackets_length h s).trans segments
  rw [pageEffects_eq]
  simp only
  split
  · refine ⟨(dispatchPackets (pagePackets h s).1 c
        (recognise (pagePackets h s).1 (pagePackets h s).2).2).2,
      (sniffed.trans (dispatchPackets_queuesNotes _ c _)).mono (by omega), ?_, .inr ⟨_, rfl⟩⟩
    rw [(SameInput.dispatchPackets _ c _).pos, pos]
  · exact ⟨_, sniffed.mono (by omega), pos, .inl rfl⟩

/-! ### Micro-steps -/

/-- The event is a unit whose data is the first n buffered bytes, at the cursor. -/
def UnitOfHead (s : State) (n : Nat) : Event → Prop
  | .frame f => f.data = s.buf.take n ∧ f.offset = some s.pos
  | .page p => p.data = s.buf.take n ∧ p.offset = s.pos
  | _ => False

theorem AtCursor.outQ_eq {s u : State} (cursor : AtCursor s u) : u.outQ = s.outQ := by
  obtain ⟨v, ⟨k, rfl⟩, rfl | rfl⟩ := cursor <;> rfl

theorem AtCursor.pos_eq {s u : State} (cursor : AtCursor s u) : u.pos = s.pos := by
  obtain ⟨v, look, rfl | rfl⟩ := cursor <;> exact look.sameInput.pos

/-- What a committed micro-step queues: notes alone, or notes and then the unit that buffer and cursor move
by. -/
inductive CommitQueue (s t : State) : Prop where
  | quiet (notes : QueuesNotes 513 s t)
  | unit (u : State) (n : Nat) (e : Event) (notes : QueuesNotes 513 s u) (last : t.outQ = u.outQ ++ [e])
      (head : UnitOfHead s n e) (inside : n ≤ s.buf.length) (buf : t.buf = s.buf.drop n)
      (pos : t.pos = s.pos + BitVec.ofNat 64 n)

theorem MicroCommit.commitQueue {s t : State} (hc : MicroCommit s t) : CommitQueue s t := by
  cases hc with
  | skipped u look _ => exact .quiet (.of_outQ_eq _ look.atCursor.outQ_eq)
  | resynced w u look _ =>
    obtain ⟨q, e, nq⟩ := warn_notes w 0 .absent u
    refine .quiet ⟨q, ?_, nq.mono (by decide)⟩
    change (warn w 0 .absent u).outQ = _
    rw [e, look.atCursor.outQ_eq]
  | frame hd n c tr u cursor inside =>
    have same := SameInput.emitFrame hd (s.buf.take n) c tr u
    have notes : QueuesNotes 513 s (afterFrame hd (s.buf.take n) u) := by
      obtain ⟨q, e, nq⟩ := afterFrame_queuesNotes hd (s.buf.take n) u
      exact ⟨q, by rw [e, cursor.outQ_eq], nq.mono (by decide)⟩
    refine .unit _ n (.frame (assembledFrame hd (s.buf.take n) (some u.pos) c tr u)) notes ?_ ?_ inside
      ?_ ?_
    · rw [advanceBy_outQ, emitFrame_eq, emit_outQ]
    · exact ⟨rfl, congrArg some cursor.pos_eq⟩
    · rw [advanceBy_buf, same.buf, cursor.buf_eq]
    · rw [advanceBy_pos, same.pos, cursor.pos_eq]
  | page hd c u cursor ogg segments inside =>
    have same := SameInput.pageEffects hd c u
    obtain ⟨v, ⟨q, e, nq⟩, hpos, hq⟩ := pageEffects_queue hd c u segments
    rw [cursor.outQ_eq] at e
    have notes : QueuesNotes 513 s v := ⟨q, e, nq⟩
    rcases hq with hq | ⟨frames, hq⟩
    · exact .quiet ⟨q, by rw [processPage, advanceBy_outQ, hq, e], nq⟩
    · refine .unit v hd.pageLength _ notes hq ?_ inside ?_ ?_
      · exact ⟨congrArg (List.take _) cursor.buf_eq, hpos.trans cursor.pos_eq⟩
      · rw [processPage, advanceBy_buf, same.buf, cursor.buf_eq]
      · rw [processPage, advanceBy_pos, same.pos, cursor.pos_eq]
  | cutPage hd u cursor =>
    unfold truncatedPage
    simp only
    split
    · exact .quiet (.of_outQ_eq _ cursor.outQ_eq)
    · refine .unit u s.buf.length _ (.of_outQ_eq _ cursor.outQ_eq) rfl ?_ le_rfl ?_ ?_
      · exact ⟨cursor.buf_eq.trans List.take_length.symm, cursor.pos_eq⟩
      · rw [advanceBy_buf, emit_buf, cursor.buf_eq]
      · rw [advanceBy_pos, emit_pos, cursor.buf_eq, cursor.pos_eq]

/-- In what a micro-step queues from an empty queue, a unit event is the one of the buffer's head. -/
theorem CommitQueue.unit_of_mem {s t : State} (h : CommitQueue s t) (empty : s.outQ = []) {e : Event}
    (mem : e ∈ t.outQ) (unit : isUnitEvent e = true) :
    ∃ n, UnitOfHead s n e ∧ n ≤ s.buf.length ∧ t.buf = s.buf.drop n
      ∧ t.pos = s.pos + BitVec.ofNat 64 n := by
  have noNote : ∀ u, QueuesNotes 513 s u → e ∉ u.outQ := by
    rintro u ⟨q, hq, nq⟩ hmem
    rw [hq, empty, List.nil_append] at hmem
    rw [nq.2 e hmem] at unit
    cases unit
  cases h with
  | quiet notes => exact absurd mem (noNote t notes)
  | unit u n e' notes last head inside buf pos =>
    rw [last, List.mem_append, List.mem_singleton] at mem
    obtain rfl := mem.resolve_left (noNote u notes)
    exact ⟨n, head, inside, buf, pos⟩

/-- Settles O53: the one unit a micro-step queues is that of the buffer's head, by what it consumes. -/
theorem unitDataIsTheConsumedBytes : Obligations.UnitDataIsTheConsumedBytes := by
  intro s t empty hc
  have queue := (microStep_commits hc).commitQueue
  have whole : ∀ {d : Bytes} {n : Nat}, n ≤ s.buf.length → d = s.buf.take n → n = d.length := by
    rintro d n inside rfl
    rw [List.length_take, Nat.min_eq_left inside]
  constructor
  · intro f mem
    obtain ⟨n, ⟨data, offset⟩, inside, buf, pos⟩ := queue.unit_of_mem empty mem rfl
    obtain rfl := whole inside data
    exact ⟨data, offset, buf, pos⟩
  · intro p mem
    obtain ⟨n, ⟨data, offset⟩, inside, buf, pos⟩ := queue.unit_of_mem empty mem rfl
    obtain rfl := whole inside data
    exact ⟨data, offset, buf, pos⟩

/-- Settles O59: two warnings, one CODEC, two notes for each of at most 255 packets, and one unit. -/
theorem queueBoundPerMicroStep : Obligations.QueueBoundPerMicroStep := by
  intro s t empty hc
  have bound : ∀ u, QueuesNotes 513 s u → u.outQ.length ≤ 513 := by
    rintro u ⟨q, hq, nq⟩
    rw [hq, empty, List.nil_append]
    exact nq.1
  cases (microStep_commits hc).commitQueue with
  | quiet notes => exact (bound t notes).trans (by decide)
  | unit u n e notes last _ _ _ _ =>
    have := bound u notes
    rw [last, List.length_append, List.length_singleton]
    omega

end Sys2Proof.Machine

/-! A page's packets become codec frames, numbered in order with the totals before them, and the page
follows them (R172 to R185, R201 to R208). -/

namespace Sys2Proof.Machine

/-! ### A packet's unit answers as the codec's parser does -/

/-- The port of an Ogg codec's parser. -/
def OggPort (codec : Codec) (port : Port) : Prop :=
  (codec = .opus ∧ port = .opus) ∨ (codec = .vorbis ∧ port = .vorbis)
    ∨ (codec = .flac ∧ port = .oggFlac)

/-- What a step makes of a packet presented on a unit's port. -/
def answerRequest (r : UnitRequest) (s : State) : Outcome :=
  match decodeUnit r with
  | .ok i => exec i s
  | .error _ => unmatchedUnit r s

theorem step_of_unitReq (r : UnitRequest) (s : State) (h : s.unitReq = none) :
    step { s with unitReq := some r } = answerRequest r s := by
  have restored : { s with unitReq := none } = s := by
    obtain ⟨⟩ := s
    simp only at h
    subst h
    rfl
  simp only [step, fetch, answerRequest, restored]
  cases decodeUnit r <;> rfl

theorem answerRequest_of_ok (r : UnitRequest) {i : Instr} (s : State) (h : decodeUnit r = .ok i) :
    answerRequest r s = exec i s := by
  rw [answerRequest, h]

theorem answerRequest_of_error (r : UnitRequest) {e : DecodeError} (s : State)
    (h : decodeUnit r = .error e) : answerRequest r s = unmatchedUnit r s := by
  rw [answerRequest, h]

theorem answerRequest_opus (p : Bytes) (a : EngineArgs) (s : State) :
    answerRequest ⟨.opus, p, a⟩ s = packetReturns (opusPacket p s) := by
  rw [answerRequest_of_ok ⟨.opus, p, a⟩ s (i := decodeOpusPacket p) rfl, opusPacket]
  by_cases id : startsWith Pattern.opusHead p = true
  · rw [show decodeOpusPacket p = .opusId p from if_pos id, if_pos id]
    rfl
  by_cases tags : startsWith Pattern.opusTags p = true
  · rw [show decodeOpusPacket p = .opusTags p from (if_neg id).trans (if_pos tags), if_neg id,
      if_pos tags]
    rfl
  · rw [show decodeOpusPacket p = .opusToc p from (if_neg id).trans (if_neg tags), if_neg id,
      if_neg tags]
    rfl

theorem answerRequest_oggFlac (p : Bytes) (a : EngineArgs) (s : State) :
    answerRequest ⟨.oggFlac, p, a⟩ s = packetReturns (oggFlacPacket p s) := by
  by_cases id : startsWith Pattern.oggFlac p = true
  · rw [answerRequest_of_ok ⟨.oggFlac, p, a⟩ s (i := .oggflacId p) (if_pos id), oggFlacPacket, if_pos id]
    rfl
  · rw [answerRequest_of_error ⟨.oggFlac, p, a⟩ s (e := .noPattern .oggFlac) (if_neg id)]
    rfl

/-- A packet with a Vorbis header signature of odd type is not empty and begins with an odd byte (R222). -/
theorem odd_of_vorbis_signature {type : Byte} {p : Bytes} (odd : bit type 0 = true)
    (sig : startsWith (Pattern.vorbis type) p = true) : p.length ≠ 0 ∧ bit (byteAt p 0) 0 = true := by
  cases p with
  | nil => cases sig
  | cons b rest =>
    have head : type = b := by
      simp only [startsWith, Pattern.vorbis, List.isPrefixOf, Bool.and_eq_true, beq_iff_eq] at sig
      exact sig.1
    subst head
    exact ⟨by simp, odd⟩

/-- An audio packet's first byte is even (R224). -/
theorem bit_zero_of_even (b : Byte) (h : (b &&& 1) = 0) : bit b 0 = false := by
  revert h; revert b; decide

theorem answerRequest_vorbis (p : Bytes) (a : EngineArgs) (s : State) :
    answerRequest ⟨.vorbis, p, a⟩ s = packetReturns (vorbisPacket p s) := by
  by_cases id : startsWith (Pattern.vorbis 1) p = true
  · obtain ⟨filled, odd⟩ := odd_of_vorbis_signature (by decide) id
    rw [answerRequest_of_ok ⟨.vorbis, p, a⟩ s (i := .vorbisId p) (if_pos id), vorbisPacket,
      if_neg filled, if_pos odd, if_pos id]
    rfl
  by_cases comment : startsWith (Pattern.vorbis 3) p = true
  · obtain ⟨filled, odd⟩ := odd_of_vorbis_signature (by decide) comment
    rw [answerRequest_of_ok ⟨.vorbis, p, a⟩ s (i := .vorbisComment p)
        ((if_neg id).trans (if_pos comment)), vorbisPacket, if_neg filled, if_pos odd,
      if_neg id, if_pos comment]
    rfl
  by_cases setup : startsWith (Pattern.vorbis 5) p = true
  · obtain ⟨filled, odd⟩ := odd_of_vorbis_signature (by decide) setup
    rw [answerRequest_of_ok ⟨.vorbis, p, a⟩ s (i := .vorbisSetup p)
        ((if_neg id).trans ((if_neg comment).trans (if_pos setup))), vorbisPacket,
      if_neg filled, if_pos odd, if_neg id, if_neg comment, if_pos setup]
    rfl
  by_cases audio : (decide (p ≠ []) && (p.getD 0 0 &&& 1) == 0) = true
  · have decoded : decodeUnit ⟨.vorbis, p, a⟩ = .ok (.vorbisAudio p) :=
      (if_neg id).trans ((if_neg comment).trans ((if_neg setup).trans (if_pos audio)))
    simp only [Bool.and_eq_true, decide_eq_true_eq, beq_iff_eq] at audio
    obtain ⟨filled, even⟩ := audio
    have notOdd : ¬bit (byteAt p 0) 0 = true := by
      rw [bit_zero_of_even (byteAt p 0) even]
      decide
    rw [answerRequest_of_ok ⟨.vorbis, p, a⟩ s decoded, vorbisPacket, if_neg (by simpa using filled),
      if_neg notOdd]
    rfl
  · rw [answerRequest_of_error ⟨.vorbis, p, a⟩ s (e := .noPattern .vorbis)
      ((if_neg id).trans ((if_neg comment).trans ((if_neg setup).trans (if_neg audio))))]
    rfl

/-- A packet on the port of the codec's parser is answered by the parser (R208). -/
theorem answerRequest_codecPacket (p : Bytes) (a : EngineArgs) (s : State) (port : Port)
    (h : OggPort s.codec port) :
    answerRequest ⟨port, p, a⟩ s = packetReturns (codecPacket p s) := by
  rcases h with ⟨hc, rfl⟩ | ⟨hc, rfl⟩ | ⟨hc, rfl⟩
  · rw [answerRequest_opus, codecPacket, hc]
  · rw [answerRequest_vorbis, codecPacket, hc]
  · rw [answerRequest_oggFlac, codecPacket, hc]

/-! ### Dispatching -/

theorem dispatchPackets_frame {p : Bytes} {s v : State} {h : Header} (rest : List Bytes) (c : Bool)
    (hp : codecPacket p s = (.frame h, v)) :
    dispatchPackets (p :: rest) c s
      = (assembledFrame h p none c false v :: (dispatchPackets rest c (afterFrame h p v)).1,
         (dispatchPackets rest c (afterFrame h p v)).2) := by
  simp only [dispatchPackets, hp, mapFrame_eq_assembledFrame]

theorem dispatchPackets_noFrame {p : Bytes} {s v : State} {r : PacketResult} (rest : List Bytes) (c : Bool)
    (hp : codecPacket p s = (r, v)) (noFrame : ∀ h, r ≠ .frame h) :
    dispatchPackets (p :: rest) c s = dispatchPackets rest c v := by
  cases r with
  | frame h => exact absurd rfl (noFrame h)
  | consumed => simp only [dispatchPackets, hp]
  | ignored => simp only [dispatchPackets, hp]

/-- The counters of a stream: frames, bytes, samples (R28). -/
@[ext] structure Counters where
  frames : Word64
  bytes : Word64
  samples : Word64

def State.counters (s : State) : Counters := ⟨s.frameNo, s.totalBytesOut, s.totalSamples⟩

/-- The counters with the frames of a list added. -/
def Counters.add (n : Counters) (fs : List FrameRecord) : Counters where
  frames := n.frames + BitVec.ofNat 64 fs.length
  bytes := n.bytes + BitVec.ofNat 64 (frameBytes fs)
  samples := n.samples + BitVec.ofNat 64 (frameSamples fs)

@[simp] theorem Counters.add_nil (n : Counters) : n.add [] = n := by
  simp [Counters.add, frameBytes, frameSamples]

/-- The frame just assembled, and then the frames after it (R180). -/
theorem counters_afterFrame_add (h : Header) (p : Bytes) (o : Option Word64) (c tr : Bool)
    (u : State) (fs : List FrameRecord) :
    (afterFrame h p u).counters.add fs = u.counters.add (assembledFrame h p o c tr u :: fs) := by
  apply Counters.ext
  · change u.frameNo + 1 + _ = u.frameNo + BitVec.ofNat 64 (fs.length + 1)
    rw [Nat.add_comm, BitVec.ofNat_add, BitVec.add_assoc]
    rfl
  · change u.totalBytesOut + BitVec.ofNat 64 p.length + _
      = u.totalBytesOut + BitVec.ofNat 64 (frameBytes (_ :: fs))
    simp only [frameBytes, List.map_cons, List.sum_cons, BitVec.ofNat_add, BitVec.add_assoc]
    rfl
  · change u.totalSamples + BitVec.ofNat 64 (samplesAndRate h).1 + _
      = u.totalSamples + BitVec.ofNat 64 (frameSamples (_ :: fs))
    simp only [frameSamples, List.map_cons, List.sum_cons, BitVec.ofNat_add, BitVec.add_assoc]
    rfl

/-- No packet parser counts (R209). -/
theorem PacketEffect.counters_eq {s u : State} {r : PacketResult} (h : PacketEffect s r u) :
    u.counters = s.counters := by
  cases h with
  | looked _ _ look => obtain ⟨k, rfl⟩ := look; rfl
  | warned w info v look =>
    obtain ⟨k, rfl⟩ := look
    obtain ⟨q, e, -⟩ := warn_outQ_only w 0 info { s with lastKey := k }
    rw [e]
    rfl
  | identified => rfl
  | setup => rfl
  | counted => rfl

/-- A frame of the packets pk that carries the given counters, confirmed as c. -/
structure DispatchedFrame (pk : List Bytes) (c : Bool) (n : Counters) (f : FrameRecord) : Prop where
  totals : n = ⟨f.frameNumber, f.totalBytesOut, f.totalSamples⟩
  duration : f.totalDuration = durationOf f.totalSamples.toNat (samplesAndRate f.header).2
  data : f.data ∈ pk
  offset : f.offset = none
  confirmed : f.confirmed = c
  truncated : f.truncated = false

/-- The frames dispatched from the packets pk: each carries the counters with the frames before it. -/
structure Dispatched (pk : List Bytes) (c : Bool) (n : Counters) (fs : List FrameRecord) : Prop where
  atMostOneEach : fs.length ≤ pk.length
  numbered : ∀ k f, fs[k]? = some f → DispatchedFrame pk c (n.add (fs.take k)) f

theorem Dispatched.nil (c : Bool) (n : Counters) : Dispatched [] c n [] :=
  ⟨le_rfl, by simp⟩

/-- A packet without a frame in front. -/
theorem Dispatched.skip {pk : List Bytes} {c : Bool} {n : Counters} {fs : List FrameRecord}
    (h : Dispatched pk c n fs) (p : Bytes) : Dispatched (p :: pk) c n fs := by
  refine ⟨h.atMostOneEach.trans (Nat.le_succ _), fun k f hf => ?_⟩
  obtain ⟨totals, duration, data, offset, confirmed, truncated⟩ := h.numbered k f hf
  exact ⟨totals, duration, List.mem_cons_of_mem p data, offset, confirmed, truncated⟩

/-- A packet with a frame in front: it carries the counters as they stand, and the frames after it those
with it added. -/
theorem Dispatched.frame {pk : List Bytes} {c : Bool} {fs : List FrameRecord} {h : Header} {p : Bytes}
    {u : State} (hd : Dispatched pk c (afterFrame h p u).counters fs) :
    Dispatched (p :: pk) c u.counters (assembledFrame h p none c false u :: fs) := by
  refine ⟨Nat.succ_le_succ hd.atMostOneEach, fun k f hf => ?_⟩
  cases k with
  | zero =>
    cases hf
    exact ⟨by rw [List.take_zero, Counters.add_nil]; rfl, rfl, List.mem_cons_self, rfl, rfl, rfl⟩
  | succ k =>
    obtain ⟨totals, duration, data, offset, confirmed, truncated⟩ := hd.numbered k f hf
    rw [counters_afterFrame_add h p none c false] at totals
    exact ⟨totals, duration, List.mem_cons_of_mem p data, offset, confirmed, truncated⟩

theorem dispatchPackets_counted (pk : List Bytes) (c : Bool) (s : State) :
    Dispatched pk c s.counters (dispatchPackets pk c s).1
      ∧ (dispatchPackets pk c s).2.counters = s.counters.add (dispatchPackets pk c s).1 := by
  induction pk generalizing s with
  | nil => exact ⟨.nil c _, (Counters.add_nil _).symm⟩
  | cons p rest ih =>
    rcases hp : codecPacket p s with ⟨r, u⟩
    have same : u.counters = s.counters := by
      have e := PacketEffect.codecPacket p s
      rw [hp] at e
      exact e.counters_eq
    by_cases framed : ∃ h, r = .frame h
    · obtain ⟨h, rfl⟩ := framed
      obtain ⟨frames, counters⟩ := ih (afterFrame h p u)
      rw [dispatchPackets_frame rest c hp, ← same]
      exact ⟨frames.frame, by rw [counters, counters_afterFrame_add h p none c false]⟩
    · rw [dispatchPackets_noFrame rest c hp (not_exists.mp framed), ← same]
      exact ⟨(ih u).1.skip p, (ih u).2⟩

/-! ### The page after its frames -/

/-- The state in which a page, its codec known, is left: its packets dispatched from u, the page queued
with the totals after them, and the buffer moved by its length (R193, R204). -/
theorem processPage_known (h : OggPageHeader) (c : Bool) (s : State)
    (known : (recognise (pagePackets h s).1 (pagePackets h s).2).1 = true) :
    processPage h c s =
      advanceBy h.pageLength (emitPage h (s.buf.take h.pageLength)
        (dispatchPackets (pagePackets h s).1 c (recognise (pagePackets h s).1 (pagePackets h s).2).2).1 c
        (dispatchPackets (pagePackets h s).1 c
          (recognise (pagePackets h s).1 (pagePackets h s).2).2).2) := by
  rw [processPage, pageEffects_eq]
  exact congrArg _ (if_pos known)

theorem pageRecord_eq (h : OggPageHeader) (d : Bytes) (frames : List FrameRecord) (c tr : Bool)
    (t : State) :
    pageRecord h d frames c tr t = {
      header := h, data := d, offset := t.pos, codecFrames := frames, samples := frameSamples frames,
      duration := (frames.map fun f => f.duration).sum, totalBytesOut := t.totalBytesOut,
      totalSamples := t.totalSamples,
      totalDuration := if t.curRate = 0 then 0 else durationOf t.totalSamples.toNat t.curRate,
      truncated := tr, confirmed := c } := by
  rw [pageRecord, runningDuration, milliseconds_eq_durationOf]
  rfl

/-- A page queued and passed, in a state with the buffer and the cursor of s. -/
theorem advanceBy_emitPage (h : OggPageHeader) (d : Bytes) (frames : List FrameRecord) (c : Bool)
    {s t : State} (buf : t.buf = s.buf) (pos : t.pos = s.pos) :
    advanceBy h.pageLength (emitPage h d frames c t) = { t with
      buf := s.buf.drop h.pageLength, pos := s.pos + BitVec.ofNat 64 h.pageLength,
      outQ := t.outQ ++ [.page {
        header := h, data := d, offset := s.pos, codecFrames := frames, samples := frameSamples frames,
        duration := (frames.map fun f => f.duration).sum, totalBytesOut := t.totalBytesOut,
        totalSamples := t.totalSamples,
        totalDuration := if t.curRate = 0 then 0 else durationOf t.totalSamples.toNat t.curRate,
        truncated := false, confirmed := c }] } := by
  rw [emitPage, pageRecord_eq, ← buf, ← pos]
  rfl

theorem recognise_known (pk : List Bytes) (s : State) (set : s.codec ≠ .unset) :
    recognise pk s = (true, s) := if_neg set

/-- The signatures tell the codecs apart by their first bytes (R201). -/
theorem sniffCodec_of_signature {p : Bytes} {c : Codec}
    (h : (Pattern.opusHead <+: p ∧ c = .opus) ∨ (Pattern.oggFlac <+: p ∧ c = .flac)
      ∨ (Pattern.vorbis 1 <+: p ∧ c = .vorbis)) : sniffCodec p = some c := by
  rcases h with ⟨⟨rest, rfl⟩, rfl⟩ | ⟨⟨rest, rfl⟩, rfl⟩ | ⟨⟨rest, rfl⟩, rfl⟩ <;> rfl

theorem recognise_sniffed (p : Bytes) (rest : List Bytes) (s : State) (c : Codec)
    (unset : s.codec = .unset) (found : sniffCodec p = some c) :
    recognise (p :: rest) s = (true, { s with codec := c, outQ := s.outQ ++ [.codec c] }) := by
  rw [recognise, if_pos unset, sniff, found]
  rfl

/-- Settles O42, from the parser's answer, the dispatch of a list of packets, and the page after it. -/
theorem dispatchedFramesAreCounted : Obligations.DispatchedFramesAreCounted := by
  refine ⟨?_, ?_, ?_, ?_⟩
  · intro p a s port noRequest fits
    rw [step_of_unitReq _ s noRequest, answerRequest_codecPacket p a s port fits]
    rfl
  · intro p rest c s
    exact ⟨rfl, fun h v hp => dispatchPackets_frame rest c hp,
      fun r v hp noFrame => dispatchPackets_noFrame rest c hp noFrame⟩
  · intro pk c s
    obtain ⟨⟨few, numbered⟩, counted⟩ := dispatchPackets_counted pk c s
    refine ⟨few, congrArg Counters.frames counted, congrArg Counters.bytes counted,
      congrArg Counters.samples counted, fun k f hf => ?_⟩
    obtain ⟨totals, duration, data, offset, confirmed, truncated⟩ := numbered k f hf
    have before : ((dispatchPackets pk c s).1.take k).length = k := by
      rw [List.length_take]
      exact Nat.min_eq_left (List.getElem?_eq_some_iff.mp hf).1.le
    refine ⟨?_, (congrArg Counters.bytes totals).symm, (congrArg Counters.samples totals).symm,
      duration, data, offset, confirmed, truncated⟩
    have number := congrArg Counters.frames totals
    rw [Counters.add, before] at number
    exact number.symm
  · intro h c s
    obtain ⟨b, q, hpk, -, -⟩ := pagePackets_state h s
    refine ⟨fun set => ?_, fun unset p rest d hfirst sig => ?_⟩
    · have known := recognise_known (pagePackets h s).1 (pagePackets h s).2 (by rw [hpk]; exact set)
      have same := SameInput.dispatchPackets (pagePackets h s).1 c (pagePackets h s).2
      rw [processPage_known h c s (by rw [known]), known]
      exact advanceBy_emitPage _ _ _ _ (by rw [same.buf, hpk]) (by rw [same.pos, hpk])
    · have first : (pagePackets h s).1 = p :: rest := hfirst
      have known := recognise_sniffed p rest (pagePackets h s).2 d (by rw [hpk]; exact unset)
        (sniffCodec_of_signature sig)
      rw [← first] at known
      have same := SameInput.dispatchPackets (pagePackets h s).1 c
        { (pagePackets h s).2 with codec := d, outQ := (pagePackets h s).2.outQ ++ [.codec d] }
      rw [processPage_known h c s (by rw [known]), known]
      exact advanceBy_emitPage _ _ _ _ (by rw [same.buf, hpk]) (by rw [same.pos, hpk])

end Sys2Proof.Machine

/-! Logging and CRC-32 computation change what is reported and nothing else (R18, R19). Both are views of
the state that hide part of the queue; a micro-step commutes with every such view, operation by operation. -/

namespace Sys2Proof.Machine

/-! ### Views -/

/-- A way to look at the machine: the two switches and the queue as they are seen. -/
structure View where
  log : Bool → Bool
  crc : Bool → Bool
  frame : FrameRecord → FrameRecord
  event : Event → Option Event

/-- The state as it is seen: only the switches and the queue differ. Reducible, so that every other field
of it is the state's own to simp. -/
@[reducible] def View.of (v : View) (s : State) : State :=
  { s with logEn := v.log s.logEn, crc32En := v.crc s.crc32En, outQ := s.outQ.filterMap v.event }

/-- What a view must keep: the notes of the stream, the order and number of its units, and their records but
for what the switches write. -/
structure View.Lawful (v : View) : Prop where
  kept : ∀ e, isUnitEvent e = false → isWarning e = false → v.event e = some e
  warning : ∀ w off info (on : Bool),
    (if v.log on then [Event.warn w off info] else [])
      = (if on then [Event.warn w off info] else []).filterMap v.event
  unitFrame : ∀ f, v.event (.frame f) = some (.frame (v.frame f))
  unitPage : ∀ p, v.event (.page p) = some (.page { p with codecFrames := p.codecFrames.map v.frame })
  samples : ∀ f, (v.frame f).samples = f.samples
  duration : ∀ f, (v.frame f).duration = f.duration
  assembled : ∀ h d o c t s, assembledFrame h d o c t (v.of s) = v.frame (assembledFrame h d o c t s)

/-- A function's answer with the state it leaves as it is seen. -/
def View.pair {α : Type} (v : View) (r : α × State) : α × State := (r.1, v.of r.2)

/-- An attempt with the state it goes on in as it is seen. -/
def View.attempt {α : Type} (v : View) : Attempt α → Attempt α
  | .suspend n => .suspend n
  | .value a s => .value a (v.of s)

section

variable {v : View} (hv : v.Lawful)

include hv

/-! ### Events and frames -/

omit hv in
theorem emit_view {e e' : Event} (s : State) (seen : v.event e = some e') :
    emit e' (v.of s) = v.of (emit e s) := by
  simp [emit, View.of, List.filterMap_append, seen]

theorem warn_view (w : Warning) (off : Nat) (info : WarnInfo) (s : State) :
    warn w off info (v.of s) = v.of (warn w off info s) := by
  have tail : ∀ t : State, warn w off info t = { t with
      outQ := t.outQ ++ if t.logEn then [.warn w (t.pos + BitVec.ofNat 64 off) info] else [] } := by
    intro t
    unfold warn
    split <;> simp [emit]
  rw [tail, tail]
  simp only [View.of, List.filterMap_append, ← hv.warning]

theorem callbacksOf_seen (h : Header) (s : State) :
    (callbacksOf h s).filterMap v.event = callbacksOf h s := by
  unfold callbacksOf
  rw [List.filterMap_append]
  congr 1 <;> split
  · simp [hv.kept (.codecHeader h) rfl rfl]
  · rfl
  · simp [hv.kept (.codecUpdate (identityFields h)) rfl rfl]
  · rfl

theorem afterFrame_view (h : Header) (d : Bytes) (s : State) :
    afterFrame h d (v.of s) = v.of (afterFrame h d s) := by
  have map := cacheStore_cacheMap_congr (s := s) (t := v.of s) (cacheKeyOf h d s.idRaw) h
    (identityFields h) rfl rfl rfl
  have callbacks : callbacksOf h (v.of s) = callbacksOf h s := rfl
  simp only [afterFrame, map, callbacks]
  simp only [View.of, List.filterMap_append, callbacksOf_seen hv]

theorem emitFrame_view (h : Header) (d : Bytes) (c t : Bool) (s : State) :
    emitFrame h d c t (v.of s) = v.of (emitFrame h d c t s) := by
  rw [emitFrame_eq, emitFrame_eq, hv.assembled, afterFrame_view hv]
  exact emit_view _ (hv.unitFrame _)

omit hv in
theorem cacheLookup_view (key : Bytes) (s : State) :
    cacheLookup key (v.of s) = v.pair (cacheLookup key s) := by
  simp only [cacheLookup]
  split
  · rcases cacheFind s.cacheMap key with _ | hit <;> rfl
  · rfl

/-! ### Header decoders -/

omit hv in
theorem decodeMpeg_view (b : Bytes) (s : State) : decodeMpeg b (v.of s) = v.pair (decodeMpeg b s) := by
  simp only [decodeMpeg, cacheLookup_view]
  split
  · rfl
  · simp only [View.pair]
    rcases cachedMpeg (cacheLookup (mpegKey b) s).1 with _ | h
    · rcases mpegFields b with _ | h <;> rfl
    · rfl

omit hv in
theorem decodeAdts_view (b : Bytes) (s : State) : decodeAdts b (v.of s) = v.pair (decodeAdts b s) := by
  simp only [decodeAdts, cacheLookup_view]
  split
  · rfl
  · simp only [View.pair]
    rcases (cachedAdts (cacheLookup (adtsKey b) s).1).orElse fun _ => adtsFixedOf b with _ | f
    · rfl
    · simp only
      split
      · rfl
      · split <;> rfl

omit hv in
theorem decodeFlac_view (b : Bytes) (si : Option StreamInfo) (s : State) :
    decodeFlac b si (v.of s) = v.pair (decodeFlac b si s) := by
  simp only [decodeFlac, cacheLookup_view]
  split
  · rfl
  · simp only [View.pair]
    rcases (cachedFlac (cacheLookup (flacKey b) s).1).orElse fun _ => flacFixedOf b si with _ | f
    · rfl
    · simp only
      split
      · rfl
      · rcases codedLength (byteAt b 4) with _ | n
        · rfl
        · simp only
          split
          · rfl
          · rcases flacRecord f b n with _ | h <;> rfl

omit hv in
theorem decodeAt_view (off : Nat) (s : State) : decodeAt off (v.of s) = v.pair (decodeAt off s) := by
  unfold decodeAt
  simp only [decodeMpeg_view, decodeAdts_view]
  split <;> rfl

/-! ### Packets -/

theorem badPacket_view (p : Bytes) (s : State) : badPacket p (v.of s) = v.pair (badPacket p s) := by
  rw [badPacket, warn_view hv]
  rfl

theorem badIdHeader_view (p : Bytes) (s : State) : badIdHeader p (v.of s) = v.pair (badIdHeader p s) := by
  rw [badIdHeader, warn_view hv]
  rfl

theorem opusIdPacket_view (p : Bytes) (s : State) :
    opusIdPacket p (v.of s) = v.pair (opusIdPacket p s) := by
  simp only [opusIdPacket, badIdHeader_view hv]
  split
  · rfl
  · rcases decodeOpusId p with _ | h <;> rfl

theorem opusAudioPacket_view (p : Bytes) (s : State) :
    opusAudioPacket p (v.of s) = v.pair (opusAudioPacket p s) := by
  have key : opusKey (v.of s) p = opusKey s p := rfl
  simp only [opusAudioPacket, badPacket_view hv, key, cacheLookup_view]
  rcases s.idHeader with _ | (i | i | i)
  · rfl
  · simp only
    split
    · rfl
    · simp only [View.pair]
      rcases opusFrameCount p _ with _ | count
      · exact badPacket_view hv p _
      · rfl
  · rfl
  · rfl

theorem opusPacket_view (p : Bytes) (s : State) : opusPacket p (v.of s) = v.pair (opusPacket p s) := by
  simp only [opusPacket, opusIdPacket_view hv, opusAudioPacket_view hv]
  split
  · rfl
  · split <;> rfl

theorem vorbisIdPacket_view (p : Bytes) (s : State) :
    vorbisIdPacket p (v.of s) = v.pair (vorbisIdPacket p s) := by
  simp only [vorbisIdPacket, badIdHeader_view hv]
  split
  · rfl
  · rcases decodeVorbisId p with _ | h <;> rfl

omit hv in
theorem vorbisSetupPacket_view (p : Bytes) (s : State) :
    vorbisSetupPacket p (v.of s) = v.pair (vorbisSetupPacket p s) := by
  simp only [vorbisSetupPacket]
  split <;> rfl

theorem vorbisAudioPacket_view (p : Bytes) (s : State) :
    vorbisAudioPacket p (v.of s) = v.pair (vorbisAudioPacket p s) := by
  simp only [vorbisAudioPacket, badPacket_view hv]
  rcases s.idHeader with _ | (i | i | i) <;> rfl

theorem vorbisPacket_view (p : Bytes) (s : State) :
    vorbisPacket p (v.of s) = v.pair (vorbisPacket p s) := by
  simp only [vorbisPacket, badPacket_view hv, vorbisIdPacket_view hv, vorbisSetupPacket_view,
    vorbisAudioPacket_view hv]
  split_ifs <;> rfl

theorem oggFlacIdPacket_view (p : Bytes) (s : State) :
    oggFlacIdPacket p (v.of s) = v.pair (oggFlacIdPacket p s) := by
  simp only [oggFlacIdPacket, badIdHeader_view hv]
  split
  · rfl
  · rcases decodeOggFlacId p with _ | h <;> rfl

theorem oggFlacFramePacket_view (p : Bytes) (s : State) :
    oggFlacFramePacket p (v.of s) = v.pair (oggFlacFramePacket p s) := by
  simp only [oggFlacFramePacket, badPacket_view hv, decodeFlac_view]
  split
  · simp only [View.pair]
    rcases decodeFlac p s.streamInfo s with ⟨h | k | _, t⟩
    · rfl
    · exact badPacket_view hv p t
    · exact badPacket_view hv p t
  · rfl

theorem oggFlacPacket_view (p : Bytes) (s : State) :
    oggFlacPacket p (v.of s) = v.pair (oggFlacPacket p s) := by
  simp only [oggFlacPacket, oggFlacIdPacket_view hv, oggFlacFramePacket_view hv]
  split
  · rfl
  · split <;> rfl

theorem codecPacket_view (p : Bytes) (s : State) : codecPacket p (v.of s) = v.pair (codecPacket p s) := by
  simp only [codecPacket, opusPacket_view hv, vorbisPacket_view hv, oggFlacPacket_view hv]
  cases s.codec <;> rfl

/-! ### Pages -/

theorem seqCheck_view (h : OggPageHeader) (s : State) : seqCheck h (v.of s) = v.of (seqCheck h s) := by
  simp only [seqCheck, warn_view hv]
  split <;> rfl

theorem setPending_view (q : Bytes) (s : State) : setPending q (v.of s) = v.of (setPending q s) := by
  simp only [setPending]
  split
  · rfl
  · exact warn_view hv _ _ _ { s with pending := [] }

omit hv in
theorem prependPending_view (pk : List PagePacket) (s : State) :
    prependPending pk (v.of s) = v.pair (prependPending pk s) := by
  cases pk with
  | nil => rfl
  | cons first rest =>
    simp only [prependPending]
    split <;> rfl

theorem holdBack_view (pk : List PagePacket) (s : State) :
    holdBack pk (v.of s) = v.pair (holdBack pk s) := by
  simp only [holdBack, setPending_view hv]
  rcases pk.getLast? with _ | ⟨q, _ | _⟩ <;> rfl

theorem continuation_view (pk : List PagePacket) (s : State) :
    continuation pk (v.of s) = v.pair (continuation pk s) := by
  simp only [continuation, prependPending_view, View.pair, holdBack_view hv]

theorem pagePackets_view (h : OggPageHeader) (s : State) :
    pagePackets h (v.of s) = v.pair (pagePackets h s) := by
  simp only [pagePackets, seqCheck_view hv, continuation_view hv]

theorem recognise_view (pk : List Bytes) (s : State) :
    recognise pk (v.of s) = v.pair (recognise pk s) := by
  simp only [recognise]
  split
  · cases pk with
    | nil => rfl
    | cons p rest =>
      simp only [sniff]
      rcases sniffCodec p with _ | c
      · rfl
      · exact congrArg (Prod.mk true)
          (emit_view { s with codec := c } (hv.kept (.codec c) rfl rfl))
  · rfl

theorem dispatchPackets_view (pk : List Bytes) (c : Bool) (s : State) :
    dispatchPackets pk c (v.of s)
      = ((dispatchPackets pk c s).1.map v.frame, v.of (dispatchPackets pk c s).2) := by
  induction pk generalizing s with
  | nil => rfl
  | cons p rest ih =>
    have hp := codecPacket_view hv p s
    rcases hr : codecPacket p s with ⟨r, u⟩
    rw [hr] at hp
    by_cases framed : ∃ h, r = .frame h
    · obtain ⟨h, rfl⟩ := framed
      rw [dispatchPackets_frame rest c hp, dispatchPackets_frame rest c hr, hv.assembled,
        afterFrame_view hv, ih]
      rfl
    · rw [dispatchPackets_noFrame rest c hp (not_exists.mp framed),
        dispatchPackets_noFrame rest c hr (not_exists.mp framed), ih]

theorem pageRecord_view (h : OggPageHeader) (d : Bytes) (frames : List FrameRecord) (c tr : Bool)
    (s : State) :
    pageRecord h d (frames.map v.frame) c tr (v.of s)
      = { pageRecord h d frames c tr s with codecFrames := frames.map v.frame } := by
  have samples : (·.samples) ∘ v.frame = fun f : FrameRecord => f.samples := funext hv.samples
  have durations : (·.duration) ∘ v.frame = fun f : FrameRecord => f.duration := funext hv.duration
  simp only [pageRecord, List.map_map, samples, durations]
  rfl

theorem emitPage_view (h : OggPageHeader) (d : Bytes) (frames : List FrameRecord) (c : Bool) (s : State) :
    emitPage h d (frames.map v.frame) c (v.of s) = v.of (emitPage h d frames c s) := by
  rw [emitPage, pageRecord_view hv]
  exact emit_view s (hv.unitPage _)

theorem pageEffects_view (h : OggPageHeader) (c : Bool) (s : State) :
    pageEffects h c (v.of s) = v.of (pageEffects h c s) := by
  simp only [pageEffects_eq, pagePackets_view hv, View.pair, recognise_view hv,
    dispatchPackets_view hv, emitPage_view hv]
  split <;> rfl

theorem processPage_view (h : OggPageHeader) (c : Bool) (s : State) :
    processPage h c (v.of s) = v.of (processPage h c s) := by
  rw [processPage, pageEffects_view hv]
  rfl

theorem truncatedPage_view (h : OggPageHeader) (s : State) :
    truncatedPage h (v.of s) = v.of (truncatedPage h s) := by
  have queued : emit (.page (pageRecord h s.buf [] (decide (s.mode = .synced)) true (v.of s))) (v.of s)
      = v.of (emit (.page (pageRecord h s.buf [] (decide (s.mode = .synced)) true s)) s) := by
    rw [← List.map_nil (f := v.frame), pageRecord_view hv]
    exact emit_view s (hv.unitPage _)
  simp only [truncatedPage, queued]
  split <;> rfl

/-! ### The micro-step -/

omit hv in
theorem orSuspend_view {α : Type} (off : Nat) (r : DecodeResult α × State) :
    orSuspend off (v.pair r) = v.attempt (orSuspend off r) := by
  obtain ⟨h | k | _, s⟩ := r
  · rfl
  · simp only [View.pair, orSuspend]
    split <;> rfl
  · rfl

theorem acceptUnit_view (h : UnitHeader) (c : Bool) (s : State) :
    acceptUnit h c (v.of s) = v.of (acceptUnit h c s) := by
  cases h with
  | mpeg m => simp only [acceptUnit, emitFrame_view hv]; rfl
  | adts a => simp only [acceptUnit, emitFrame_view hv]; rfl
  | page p => exact processPage_view hv p c s

theorem acceptTruncated_view (h : UnitHeader) (s : State) :
    acceptTruncated h (v.of s) = v.of (acceptTruncated h s) := by
  cases h with
  | mpeg m => simp only [acceptTruncated, emitFrame_view hv]; rfl
  | adts a => simp only [acceptTruncated, emitFrame_view hv]; rfl
  | page p => exact truncatedPage_view hv p s

theorem resync_view (w : Warning) (s : State) : resync w (v.of s) = v.of (resync w s) := by
  rw [resync, warn_view hv]
  rfl

omit hv in
theorem gainSync_view (s : State) : gainSync (v.of s) = v.of (gainSync s) := rfl

omit hv in
theorem advanceBy_view (n : Nat) (s : State) : advanceBy n (v.of s) = v.of (advanceBy n s) := rfl

theorem confirmUnit_view (h : UnitHeader) (s : State) :
    confirmUnit h (v.of s) = (confirmUnit h s).map v.of := by
  simp only [confirmUnit, decodeAt_view, orSuspend_view]
  rcases orSuspend (unitLength h) (decodeAt (unitLength h) s) with n | ⟨h' | k | _, t⟩
  · rfl
  · simp only [View.attempt, gainSync_view, acceptUnit_view hv]; rfl
  · simp only [View.attempt, acceptUnit_view hv, acceptTruncated_view hv]
    split <;> rfl
  · simp only [View.attempt, resync_view hv]; rfl

theorem syncedUnit_view (h : UnitHeader) (s : State) :
    syncedUnit h (v.of s) = (syncedUnit h s).map v.of := by
  simp only [syncedUnit, acceptUnit_view hv, acceptTruncated_view hv]
  split_ifs <;> rfl

theorem fixedStep_view (s : State) : fixedStep (v.of s) = (fixedStep s).map v.of := by
  simp only [fixedStep, decodeAt_view, orSuspend_view]
  rcases orSuspend 0 (decodeAt 0 s) with n | ⟨h | k | _, t⟩
  · rfl
  · simp only [View.attempt, confirmUnit_view hv, syncedUnit_view hv]
    cases t.mode <;> rfl
  · simp only [View.attempt, advanceBy_view, resync_view hv]
    cases t.mode <;> rfl
  · simp only [View.attempt, advanceBy_view, resync_view hv]
    cases t.mode <;> rfl

omit hv in
theorem flacScanFrom_view (tries p : Nat) (rest : Bytes) (s : State) :
    flacScanFrom tries p rest (v.of s) = v.attempt (flacScanFrom tries p rest s) := by
  induction tries generalizing p rest s with
  | zero => rfl
  | succ n ih =>
    have footer : footerOk p (v.of s) = footerOk p s := rfl
    simp only [flacScanFrom, footer, decodeFlac_view, orSuspend_view, ih]
    split
    · rfl
    split
    · rfl
    split
    · split <;> rfl
    split
    · rfl
    split
    · rfl
    rcases orSuspend p (decodeFlac rest none s) with k | ⟨h | k | _, t⟩
    · rfl
    · rfl
    · rfl
    · exact ih _ _ t

theorem acceptFlac_view (h : FlacHeader) (p : Nat) (c : Bool) (s : State) :
    acceptFlac h p c (v.of s) = v.of (acceptFlac h p c s) := by
  simp only [acceptFlac, gainSync_view]
  split <;> simp only [emitFrame_view hv] <;> rfl

theorem flacStep_view (s : State) : flacStep (v.of s) = (flacStep s).map v.of := by
  simp only [flacStep, decodeFlac_view, orSuspend_view]
  rcases orSuspend 0 (decodeFlac s.buf none s) with n | ⟨h | k | _, t⟩
  · rfl
  · simp only [View.attempt, flacScan, flacScanFrom_view]
    rcases flacScanFrom _ _ _ t with n | ⟨_ | ⟨p, c⟩, u⟩
    · rfl
    · simp only [resync_view hv]; rfl
    · simp only [acceptFlac_view hv]; rfl
  · simp only [View.attempt, advanceBy_view, resync_view hv]
    cases t.mode <;> rfl
  · simp only [View.attempt, advanceBy_view, resync_view hv]
    cases t.mode <;> rfl

/-- A micro-step seen through a lawful view is the micro-step of the state so seen. -/
theorem microStep_view (s : State) : microStep (v.of s) = (microStep s).map v.of := by
  simp only [microStep, flacStep_view hv, fixedStep_view hv]
  split_ifs <;> rfl

end

/-! ### The two views -/

/-- Without logging: no WARN is queued (R18). -/
def logView : View where
  log _ := false
  crc on := on
  frame f := f
  event e := if isWarning e then none else some e

theorem withoutLog_eq : withoutLog = logView.of := by
  funext s
  have queue : s.outQ.filterMap logView.event = s.outQ.filter fun e => !isWarning e := by
    rw [← List.filterMap_eq_filter]
    refine List.filterMap_congr fun e _ => ?_
    cases hw : isWarning e <;> simp [logView, Option.guard, hw]
  rw [View.of, queue]
  rfl

theorem logView_lawful : logView.Lawful where
  kept e _ notWarning := by simp [logView, notWarning]
  warning w off info on := by cases on <;> rfl
  unitFrame _ := rfl
  unitPage p := by simp [logView, isWarning]
  samples _ := rfl
  duration _ := rfl
  assembled _ _ _ _ _ _ := rfl

/-- Without CRC-32 computation: no record carries one (R19). -/
def crcView : View where
  log on := on
  crc _ := false
  frame := dropCrcFrame
  event e := some (dropCrcEvent e)

theorem withoutCrc_eq : withoutCrc = crcView.of := by
  funext s
  have queue : s.outQ.filterMap crcView.event = s.outQ.map dropCrcEvent :=
    congrFun List.filterMap_eq_map s.outQ
  rw [View.of, queue]
  rfl

theorem crcView_lawful : crcView.Lawful where
  kept e notUnit _ := by
    cases e with
    | frame f => cases notUnit
    | page p => cases notUnit
    | codec c => rfl
    | codecHeader h => rfl
    | codecUpdate i => rfl
    | warn w off info => rfl
  warning w off info on := by cases on <;> rfl
  unitFrame _ := rfl
  unitPage _ := rfl
  samples _ := rfl
  duration _ := rfl
  assembled _ _ _ _ _ _ := rfl

/-- Settles O54: leaving the warnings out is a lawful view. -/
theorem loggingOnlyAddsWarnings : Obligations.LoggingOnlyAddsWarnings := by
  unfold Obligations.LoggingOnlyAddsWarnings
  rw [withoutLog_eq]
  exact microStep_view logView_lawful

/-- Settles O55: leaving the CRC-32s out is a lawful view. -/
theorem crc32OnlyFillsItsField : Obligations.Crc32OnlyFillsItsField := by
  unfold Obligations.Crc32OnlyFillsItsField
  rw [withoutCrc_eq]
  exact microStep_view crcView_lawful

end Sys2Proof.Machine

/-! Decoding under a sound cache: a hit supplies what decoding the bytes gives, so that a decoder answers as
it does with the cache disabled and empty (R55, R133, R179). -/

namespace Sys2Proof.Machine

/-! ### What a hit supplies -/

@[simp] theorem cacheLookup_withoutCache (key : Bytes) (s : State) :
    cacheLookup key (withoutCache s) = (none, withoutCache s) := rfl

/-- What a lookup finds in a sound cache is a sound entry. -/
theorem entrySound_of_lookup {s : State} {key : Bytes} {v : Header × Identity} (sound : CacheSound s)
    (hit : (cacheLookup key s).1 = some v) : entrySound s (key, v) = true := by
  rcases cacheLookup_cases key s with ⟨w, -, found, e⟩ | ⟨-, e⟩
  · rw [e] at hit
    cases hit
    exact List.all_eq_true.mp sound _ (cacheFind_mem _ _ _ found)
  · rw [e] at hit
    cases hit

theorem entrySound_mpeg (s : State) (key : Bytes) (m : MpegHeader) (i : Identity) :
    entrySound s (key, .mpeg m, i) = true ↔
      i = identityOf (.mpeg m) ∧ key.length = 4 ∧ mpegFields key = some m := by
  simp [entrySound]

theorem entrySound_adts (s : State) (key : Bytes) (a : AdtsHeader) (i : Identity) :
    entrySound s (key, .adts a, i) = true ↔
      i = identityOf (.adts a) ∧ key.length = 4 ∧ adtsFixedOf key = some (AdtsFixed.ofHeader a) := by
  simp [entrySound]

theorem entrySound_flac (s : State) (key : Bytes) (f : FlacHeader) (i : Identity) :
    entrySound s (key, .flac f, i) = true ↔
      i = identityOf (.flac f) ∧ key.length = 4
        ∧ flacFixedOf key (flacReference s) = some (FlacFixed.ofHeader f)
        ∧ (s.codecSel ≠ 3 ∨ s.idHeader.isSome = true) := by
  simp [entrySound, and_assoc]

theorem entrySound_opus (s : State) (key : Bytes) (o : OpusHeader) (i : Identity) :
    entrySound s (key, .opus o, i) = true ↔
      i = identityOf (.opus o) ∧ s.idHeader = some (.opus o.id)
        ∧ (o.mode, o.bandwidth, o.frameSize) = opusConfig (field (key.getLastD 0) 7 3) := by
  simp only [entrySound, Bool.and_eq_true, decide_eq_true_eq]

theorem entrySound_vorbis (s : State) (key : Bytes) (v : VorbisHeader) (i : Identity) :
    entrySound s (key, .vorbis v, i) = true ↔
      i = identityOf (.vorbis v) ∧ s.idHeader = some (.vorbis v.id) := by
  simp [entrySound]

/-! ### A key holds the bits its header's fixed fields are decoded from -/

theorem byteAt_slice_zero {i n : Nat} (b : Bytes) (h : i < n) : byteAt (slice b 0 n) i = byteAt b i := by
  simp [byteAt, slice, h]

theorem mpegFields_mpegKey (b : Bytes) : mpegFields (mpegKey b) = mpegFields b := by
  simp [mpegFields, mpegKey, byteAt_slice_zero]

theorem flacFixedOf_flacKey (b : Bytes) (si : Option StreamInfo) :
    flacFixedOf (flacKey b) si = flacFixedOf b si := by
  simp [flacFixedOf, flacKey, byteAt_slice_zero]

/-- The four bits of byte 3 that R170 leaves out of the key are none of the fixed fields' bits. -/
theorem maskedByte_fields (x : Byte) :
    field (x &&& 0xF0) 7 6 = field x 7 6 ∧ bit (x &&& 0xF0) 5 = bit x 5
      ∧ bit (x &&& 0xF0) 4 = bit x 4 := by
  revert x
  decide

theorem adtsFixedOf_adtsKey (b : Bytes) : adtsFixedOf (adtsKey b) = adtsFixedOf b := by
  obtain ⟨channels, original, home⟩ := maskedByte_fields (byteAt b 3)
  have b0 : byteAt (adtsKey b) 0 = byteAt b 0 := rfl
  have b1 : byteAt (adtsKey b) 1 = byteAt b 1 := rfl
  have b2 : byteAt (adtsKey b) 2 = byteAt b 2 := rfl
  have b3 : byteAt (adtsKey b) 3 = byteAt b 3 &&& 0xF0 := rfl
  simp only [adtsFixedOf, b0, b1, b2, b3, channels, original, home]

theorem opusKey_getLastD (s : State) (p : Bytes) : (opusKey s p).getLastD 0 = byteAt p 0 := by
  simp [opusKey]

/-! ### A lookup never changes the fields decoded -/

theorem cachedMpeg_sound {s : State} {b : Bytes} {h : MpegHeader} (sound : CacheSound s)
    (hit : cachedMpeg (cacheLookup (mpegKey b) s).1 = some h) : mpegFields b = some h := by
  unfold cachedMpeg at hit
  split at hit
  · next m i found =>
    cases hit
    obtain ⟨-, -, fields⟩ := (entrySound_mpeg s _ _ i).mp (entrySound_of_lookup sound found)
    rw [← mpegFields_mpegKey]
    exact fields
  · cases hit

theorem cachedAdts_sound {s : State} (b : Bytes) (sound : CacheSound s) :
    ((cachedAdts (cacheLookup (adtsKey b) s).1).orElse fun _ => adtsFixedOf b) = adtsFixedOf b := by
  unfold cachedAdts
  split
  · next a i found =>
    obtain ⟨-, -, fixed⟩ := (entrySound_adts s _ a i).mp (entrySound_of_lookup sound found)
    rw [adtsFixedOf_adtsKey] at fixed
    exact fixed.symm
  · rfl

theorem cachedFlac_sound {s : State} {si : Option StreamInfo} (b : Bytes) (sound : CacheSound s)
    (reference : flacReference s = si) :
    ((cachedFlac (cacheLookup (flacKey b) s).1).orElse fun _ => flacFixedOf b si) = flacFixedOf b si := by
  unfold cachedFlac
  split
  · next f i found =>
    obtain ⟨-, -, fixed, -⟩ := (entrySound_flac s _ f i).mp (entrySound_of_lookup sound found)
    rw [flacFixedOf_flacKey, reference] at fixed
    exact fixed.symm
  · rfl

/-- An Opus entry stands under the identification header held, and its key ends in the TOC byte (R170). -/
theorem cachedOpus_sound {s : State} {i : OpusId} (p : Bytes) (sound : CacheSound s)
    (held : s.idHeader = some (.opus i)) :
    (cachedOpus (cacheLookup (opusKey s p) s).1).getD (i, opusConfig (field (byteAt p 0) 7 3))
      = (i, opusConfig (field (byteAt p 0) 7 3)) := by
  unfold cachedOpus
  split
  · next o j found =>
    obtain ⟨-, ident, config⟩ := (entrySound_opus s _ o j).mp (entrySound_of_lookup sound found)
    rw [opusKey_getLastD] at config
    rw [held] at ident
    cases ident
    rw [Option.getD_some, config]
  · rfl

/-! ### A decoder answers as without the cache -/

theorem decodeMpeg_withoutCache {s : State} (b : Bytes) (sound : CacheSound s) :
    (decodeMpeg b s).1 = (decodeMpeg b (withoutCache s)).1 := by
  simp only [decodeMpeg, cacheLookup_withoutCache]
  split
  · rfl
  · rcases hit : cachedMpeg (cacheLookup (mpegKey b) s).1 with _ | h
    · rcases mpegFields b with _ | h <;> rfl
    · rw [cachedMpeg_sound sound hit]
      rfl

theorem decodeAdts_withoutCache {s : State} (b : Bytes) (sound : CacheSound s) :
    (decodeAdts b s).1 = (decodeAdts b (withoutCache s)).1 := by
  have fresh : ((cachedAdts none).orElse fun _ => adtsFixedOf b) = adtsFixedOf b := rfl
  simp only [decodeAdts, cacheLookup_withoutCache, cachedAdts_sound b sound, fresh]
  split
  · rfl
  · rcases adtsFixedOf b with _ | f
    · rfl
    · simp only
      split
      · rfl
      · split <;> rfl

theorem decodeFlac_withoutCache {s : State} {si : Option StreamInfo} (b : Bytes) (sound : CacheSound s)
    (reference : flacReference s = si) :
    (decodeFlac b si s).1 = (decodeFlac b si (withoutCache s)).1 := by
  have fresh : ((cachedFlac none).orElse fun _ => flacFixedOf b si) = flacFixedOf b si := rfl
  simp only [decodeFlac, cacheLookup_withoutCache, cachedFlac_sound b sound reference, fresh]
  split
  · rfl
  · rcases flacFixedOf b si with _ | f
    · rfl
    · simp only
      split
      · rfl
      · rcases codedLength (byteAt b 4) with _ | n
        · rfl
        · simp only
          split
          · rfl
          · rcases flacRecord f b n with _ | h <;> rfl

theorem opusAudioPacket_withoutCache {s : State} (p : Bytes) (sound : CacheSound s) :
    (opusAudioPacket p s).1 = (opusAudioPacket p (withoutCache s)).1 := by
  have ident : (withoutCache s).idHeader = s.idHeader := rfl
  simp only [opusAudioPacket, cacheLookup_withoutCache, ident]
  rcases held : s.idHeader with _ | (i | i | i)
  · rfl
  · have fresh : (cachedOpus none).getD (i, opusConfig (field (byteAt p 0) 7 3))
        = (i, opusConfig (field (byteAt p 0) 7 3)) := rfl
    simp only [cachedOpus_sound p sound held, fresh]
    split
    · rfl
    · rcases opusFrameCount p (opusConfig (field (byteAt p 0) 7 3)).2.2 with _ | count <;> rfl
  · rfl
  · rfl

/-- Settles O30: a hit in a sound cache supplies the fields that decoding the bytes gives. -/
theorem cachedDecodeIsDecode : Obligations.CachedDecodeIsDecode := by
  intro b s t u sound
  refine ⟨fun ht hu => ?_, fun ht hu => ?_, fun ht hu => ?_, fun ht hu => ?_⟩ <;> cases ht <;> cases hu
  · exact congrArg UnitResult.mpeg (decodeMpeg_withoutCache b sound)
  · exact congrArg UnitResult.adts (decodeAdts_withoutCache b sound)
  · exact congrArg UnitResult.flac (decodeFlac_withoutCache b sound rfl)
  · exact congrArg UnitResult.packet (opusAudioPacket_withoutCache b sound)

end Sys2Proof.Machine

/-! The bytes of the stream stand at their offsets: what a read at an offset returns once bytes were added
behind or taken off the head (R42, R43, R90). -/

namespace Sys2Proof.Machine

/-- Every buffered byte stands at its offset from the cursor, in a buffer that does not reach round the
offset space. -/
theorem streamByte_pos_add (s : State) (i : Nat) (small : i < 2 ^ 64) :
    streamByte s (s.pos + BitVec.ofNat 64 i) = s.buf[i]? := by
  have distance : (s.pos + BitVec.ofNat 64 i - s.pos).toNat = i := by bv_omega
  rw [streamByte, distance]

theorem streamByte_isSome (s : State) (a : Word64) :
    (streamByte s a).isSome = true ↔ (a - s.pos).toNat < s.buf.length := by
  simp [streamByte]

/-- A byte from the new cursor on is read as before. -/
theorem streamByte_advanceBy_of_le (s : State) (k : Nat) (a : Word64) (held : k ≤ (a - s.pos).toNat) :
    streamByte (advanceBy k s) a = streamByte s a := by
  have distance : k + (a - (s.pos + BitVec.ofNat 64 k)).toNat = (a - s.pos).toNat := by bv_omega
  rw [streamByte, streamByte, advanceBy_buf, advanceBy_pos, List.getElem?_drop, distance]

/-- An offset behind the new cursor is so far ahead of it, round the offset space, that no byte stands
there. -/
theorem streamByte_advanceBy_of_lt (s : State) (k : Nat) (a : Word64) (bounded : s.buf.length ≤ 2 ^ 64)
    (gone : (a - s.pos).toNat < k) : streamByte (advanceBy k s) a = none := by
  have distance : 2 ^ 64 ≤ k + (a - (s.pos + BitVec.ofNat 64 k)).toNat := by bv_omega
  rw [streamByte, advanceBy_buf, advanceBy_pos, List.getElem?_drop, List.getElem?_eq_none_iff]
  exact bounded.trans distance

/-- Settles O21. -/
theorem streamBytesAreStable : Obligations.StreamBytesAreStable := by
  intro s bounded
  refine ⟨fun n off i t ht satisfied inside => ?_, fun d t a ht held => ?_, fun k t a ht => ?_⟩
  · have covered : requireBytes n off s = .satisfied := by
      change execRequire n off s = .next t at ht
      unfold execRequire at ht
      split at ht
      · next e => exact e
      · cases ht; cases satisfied
      · cases ht; cases satisfied
    have present : off + i < s.buf.length := by
      rcases (requireBytes_satisfied n off s).mp covered with rfl | fits
      · omega
      · omega
    exact ⟨streamByte_pos_add s _ (present.trans_le bounded), by simp [present]⟩
  · change execAppend d s = .next t at ht
    unfold execAppend at ht
    split at ht
    · cases ht
      exact appendBytes_streamByte d s a ((streamByte_isSome s a).mp held)
    · cases ht
  · change execAdvance k s = .next t at ht
    unfold execAdvance at ht
    split at ht
    · cases ht
      exact ⟨streamByte_advanceBy_of_le s k a, streamByte_advanceBy_of_lt s k a bounded⟩
    · cases ht

end Sys2Proof.Machine

/-! Every step keeps the cache sound (R55, R166 to R170). A header stored is one decoded from the bytes its key
is taken from, under the identification the state holds; and what the entries depend on changes only while
no entry depends on it. -/

namespace Sys2Proof.Machine

/-! ### What a decoder parses under a sound cache -/

theorem decodeMpeg_parsed {s : State} {b : Bytes} {h : MpegHeader} (sound : CacheSound s)
    (parsed : (decodeMpeg b s).1 = .parsed h) : 4 ≤ b.length ∧ mpegFields b = some h := by
  rw [decodeMpeg_withoutCache b sound, decodeMpeg] at parsed
  split at parsed
  · cases parsed
  next long =>
  simp only [cacheLookup_withoutCache, cachedMpeg] at parsed
  split at parsed
  · next fields => cases parsed; exact ⟨Nat.not_lt.mp long, fields⟩
  · cases parsed

theorem decodeAdts_parsed {s : State} {b : Bytes} {h : AdtsHeader} (sound : CacheSound s)
    (parsed : (decodeAdts b s).1 = .parsed h) :
    ∃ f, adtsFixedOf b = some f ∧ h = adtsRecord f b
      ∧ adtsHeaderLength f.protectionAbsent ≤ adtsFrameLength b := by
  rw [decodeAdts_withoutCache b sound, decodeAdts] at parsed
  split at parsed
  · cases parsed
  simp only [cacheLookup_withoutCache] at parsed
  split at parsed
  · cases parsed
  next f fixed =>
  split at parsed
  · cases parsed
  next length =>
  split at parsed
  · cases parsed
  · cases parsed
    exact ⟨f, fixed, rfl, Nat.not_lt.mp length⟩

theorem decodeFlac_parsed {s : State} {b : Bytes} {si : Option StreamInfo} {h : FlacHeader}
    (sound : CacheSound s) (reference : flacReference s = si)
    (parsed : (decodeFlac b si s).1 = .parsed h) :
    4 ≤ b.length ∧ ∃ f n, flacFixedOf b si = some f ∧ flacRecord f b n = some h := by
  rw [decodeFlac_withoutCache b sound reference, decodeFlac] at parsed
  split at parsed
  · cases parsed
  next long =>
  simp only [cacheLookup_withoutCache] at parsed
  split at parsed
  · cases parsed
  next f fixed =>
  split at parsed
  · cases parsed
  split at parsed
  · cases parsed
  next n _ =>
  split at parsed
  · cases parsed
  split at parsed
  · next record =>
    cases parsed
    exact ⟨Nat.not_lt.mp long, f, n, fixed, record⟩
  · cases parsed

/-- An Opus frame's header has the identification held and the configuration of its TOC byte (R214). -/
theorem opusAudioPacket_frame {s : State} {p : Bytes} {h : Header} (sound : CacheSound s)
    (framed : (opusAudioPacket p s).1 = .frame h) :
    ∃ i count, s.idHeader = some (.opus i)
      ∧ h = .opus (opusRecord i (opusConfig (field (byteAt p 0) 7 3)) p count) := by
  rw [opusAudioPacket_withoutCache p sound, opusAudioPacket] at framed
  split at framed
  · next i held =>
    split at framed
    · cases framed
    simp only [cacheLookup_withoutCache, cachedOpus, Option.getD_none] at framed
    split at framed
    · next count _ => cases framed; exact ⟨i, count, held, rfl⟩
    · cases framed
  · cases framed

/-- An Opus audio packet writes lastKey and at most a warning (R209, R214). -/
theorem opusAudioPacket_state (p : Bytes) (s : State) :
    ∃ k q, (opusAudioPacket p s).2 = { s with lastKey := k, outQ := q } := by
  have bad : ∀ k, ∃ q, (badPacket p { s with lastKey := k }).2 = { s with lastKey := k, outQ := q } :=
    fun k => by
      obtain ⟨q, e, -⟩ := warn_outQ_only .badPacket 0 (.length p.length) { s with lastKey := k }
      exact ⟨_, e⟩
  obtain ⟨k, look⟩ := cacheLookup_state (opusKey s p) s
  unfold opusAudioPacket
  split
  · split
    · exact ⟨_, bad s.lastKey⟩
    · simp only [look]
      split
      · exact ⟨k, s.outQ, rfl⟩
      · exact ⟨_, bad k⟩
  · exact ⟨_, bad s.lastKey⟩

/-! ### A record gives its fixed fields back -/

theorem adtsFixed_ofHeader_record (f : AdtsFixed) (b : Bytes) :
    AdtsFixed.ofHeader (adtsRecord f b) = f := rfl

theorem flacBlockSize_value {c n : Nat} (h : flacBlockSize c = some (.value n)) : c ≠ 6 ∧ c ≠ 7 := by
  constructor <;> rintro rfl <;> cases h

theorem flacBlockSize_extended {c k : Nat} (h : flacBlockSize c = some (.extended k)) :
    (c = 6 ∧ k = 1) ∨ (c = 7 ∧ k = 2) := by
  unfold flacBlockSize at h
  split_ifs at h with h0 h1 h5 h6 h7 <;> cases h
  · exact .inl ⟨h6, rfl⟩
  · exact .inr ⟨h7, rfl⟩

theorem flacSampleRate_value {c n : Nat} {si : Option StreamInfo}
    (h : flacSampleRate c si = some (.value n)) : c ≠ 12 ∧ c ≠ 13 ∧ c ≠ 14 := by
  refine ⟨?_, ?_, ?_⟩ <;> rintro rfl <;> cases h

theorem flacSampleRate_extended {c k : Nat} {si : Option StreamInfo}
    (h : flacSampleRate c si = some (.extended k)) :
    (c = 12 ∧ k = 1) ∨ (c = 13 ∧ k = 2) ∨ (c = 14 ∧ k = 2) := by
  unfold flacSampleRate at h
  split at h
  · simp at h
  · cases h; simp
  · cases h; simp
  · cases h; simp
  · cases h
  · simp at h

/-- The block size and the sample rate are what their codes give, so that the codes tell the extended ones
apart (R123, R124). -/
def FlacFixed.Coded (f : FlacFixed) (si : Option StreamInfo) : Prop :=
  flacBlockSize f.bsCode.toNat = some f.blockSize ∧ flacSampleRate f.srCode.toNat si = some f.sampleRate

theorem toNat_nibbles (b : Byte) :
    (b.extractLsb' 4 4).toNat = field b 7 4 ∧ (b.extractLsb' 0 4).toNat = field b 3 0 := by
  simp [field, Nat.shiftRight_eq_div_pow]

theorem flacFixedOf_coded {b : Bytes} {si : Option StreamInfo} {f : FlacFixed}
    (h : flacFixedOf b si = some f) : f.Coded si := by
  obtain ⟨high, low⟩ := toNat_nibbles (byteAt b 2)
  unfold flacFixedOf at h
  simp only at h
  split at h
  · split at h
    · next size rate _ _ =>
      split at h
      · cases h
      · cases h
        exact ⟨by rw [high]; exact size, by rw [low]; exact rate⟩
    · cases h
  · cases h

theorem flacRecord_eq_some {f : FlacFixed} {b : Bytes} {n : Nat} {h : FlacHeader}
    (record : flacRecord f b n = some h) :
    h.headerLength = flacHeaderLength f n
      ∧ h.blockSize = flacBlockSizeAt f b (4 + n)
      ∧ h.sampleRate = flacSampleRateAt f b (4 + n + f.blockSize.extra)
      ∧ h.blockingStrategy = f.blockingStrategy ∧ h.bsCode = f.bsCode ∧ h.srCode = f.srCode
      ∧ h.chCode = f.chCode ∧ h.channels = f.channels ∧ h.channelMode = f.channelMode
      ∧ h.ssCode = f.ssCode ∧ h.bitDepth = f.bitDepth := by
  unfold flacRecord at record
  simp only at record
  split at record
  · cases record
  split at record
  · cases record
  split at record
  · cases record
    simp
  · cases record

theorem flacFixed_ofHeader_record {f : FlacFixed} {si : Option StreamInfo} {b : Bytes} {n : Nat}
    {h : FlacHeader} (coded : f.Coded si) (record : flacRecord f b n = some h) :
    FlacFixed.ofHeader h = f := by
  obtain ⟨-, size, rate, strategy, bs, sr, ch, channels, mode, ss, depth⟩ := flacRecord_eq_some record
  obtain ⟨strategy', bsCode, blockSize, srCode, sampleRate, chCode, channels', mode', ssCode, depth'⟩ := f
  obtain ⟨bsOf, srOf⟩ := coded
  simp only at bsOf srOf strategy bs sr ch channels mode ss depth
  simp only [FlacFixed.ofHeader, size, rate, strategy, bs, sr, ch, channels, mode, ss, depth,
    FlacFixed.mk.injEq, true_and, and_true]
  constructor
  · cases blockSize with
    | value v =>
      obtain ⟨not6, not7⟩ := flacBlockSize_value bsOf
      split
      · contradiction
      · contradiction
      · rfl
    | extended k => rcases flacBlockSize_extended bsOf with ⟨c, rfl⟩ | ⟨c, rfl⟩ <;> simp only [c]
  · cases sampleRate with
    | value v =>
      obtain ⟨not12, not13, not14⟩ := flacSampleRate_value srOf
      split
      · contradiction
      · contradiction
      · contradiction
      · rfl
    | extended k =>
      rcases flacSampleRate_extended srOf with ⟨c, rfl⟩ | ⟨c, rfl⟩ | ⟨c, rfl⟩ <;> simp only [c]

/-! ### A frame holds the bytes of its key -/

theorem four_le_flacHeaderLength (f : FlacFixed) (n : Nat) : 4 ≤ flacHeaderLength f n := by
  unfold flacHeaderLength
  omega

theorem mpegBitrate_ge {v : MpegVersion} {l : MpegLayer} {index rate : Nat}
    (h : mpegBitrate v l index = some rate) : 8 ≤ rate := by
  have column : ∀ x ∈ bitrateColumn v l, 8 ≤ x := by cases v <;> cases l <;> decide
  unfold mpegBitrate at h
  split at h
  · cases h
  · exact column rate (List.mem_of_getElem? h)

theorem mpegSampleRate_bounds {v : MpegVersion} {index rate : Nat}
    (h : mpegSampleRate v index = some rate) : 1 ≤ rate ∧ rate ≤ 48000 := by
  cases v with
  | mpeg1 => exact (by decide : ∀ x ∈ [44100, 48000, 32000], 1 ≤ x ∧ x ≤ 48000) _ (List.mem_of_getElem? h)
  | mpeg2 => exact (by decide : ∀ x ∈ [22050, 24000, 16000], 1 ≤ x ∧ x ≤ 48000) _ (List.mem_of_getElem? h)
  | mpeg25 => exact (by decide : ∀ x ∈ [11025, 12000, 8000], 1 ≤ x ∧ x ≤ 48000) _ (List.mem_of_getElem? h)

theorem mpegSamples_ge (v : MpegVersion) (l : MpegLayer) : 384 ≤ mpegSamples v l := by
  cases v <;> cases l <;> decide

/-- The lowest bitrate with the fewest samples at the highest sample rate is 8 bytes already. -/
theorem mpegFrameLength_ge {v : MpegVersion} {l : MpegLayer} {i j bitrate rate : Nat} (padding : Nat)
    (hb : mpegBitrate v l i = some bitrate) (hr : mpegSampleRate v j = some rate) :
    4 ≤ mpegFrameLength bitrate (mpegSamples v l) rate padding := by
  obtain ⟨positive, highest⟩ := mpegSampleRate_bounds hr
  have bits : 8 * 384 ≤ bitrate * mpegSamples v l :=
    Nat.mul_le_mul (mpegBitrate_ge hb) (mpegSamples_ge v l)
  have quotient : 4 ≤ 125 * bitrate * mpegSamples v l / rate := by
    rw [Nat.le_div_iff_mul_le positive, Nat.mul_assoc]
    omega
  exact quotient.trans (Nat.le_add_right _ _)

theorem mpegFields_frameLength {b : Bytes} {h : MpegHeader} (fields : mpegFields b = some h) :
    4 ≤ h.frameLength := by
  unfold mpegFields at fields
  simp only at fields
  split at fields
  · split at fields
    · split at fields
      · next hb hr _ =>
        split at fields
        · cases fields
        · cases fields
          exact mpegFrameLength_ge _ hb hr
      · cases fields
    · cases fields
  · cases fields

theorem four_le_adtsHeaderLength (absent : Bool) : 4 ≤ adtsHeaderLength absent := by
  cases absent <;> decide

theorem cacheKeyOf_take {n : Nat} (h : Header) (d : Bytes) (raw : Option Bytes) (whole : 4 ≤ n) :
    cacheKeyOf h (d.take n) raw = cacheKeyOf h d raw := by
  have byte : ∀ i, i < 4 → byteAt (d.take n) i = byteAt d i := fun i hi => by
    simp [byteAt, hi.trans_le whole]
  have four : (d.take n).take 4 = d.take 4 := by rw [List.take_take, min_eq_left whole]
  cases h <;> simp [cacheKeyOf, byte, four]

/-! ### Storing a sound entry -/

/-- The entry that a frame of these bytes would store is sound (R170). -/
def Storable (s : State) (h : Header) (d : Bytes) : Prop :=
  entrySound s (cacheKeyOf h d s.idRaw, h, identityFields h) = true

theorem Storable.take {s : State} {h : Header} {d : Bytes} {n : Nat} (entry : Storable s h d)
    (whole : 4 ≤ n) : Storable s h (d.take n) := by
  unfold Storable
  rw [cacheKeyOf_take h d s.idRaw whole]
  exact entry

theorem Storable.relooked {s u : State} {h : Header} {d : Bytes} (entry : Storable s h d)
    (look : Relooked s u) : Storable u h d := by
  obtain ⟨k, rfl⟩ := look
  exact entry

theorem Storable.gainSync {s : State} {h : Header} {d : Bytes} (entry : Storable s h d) :
    Storable (gainSync s) h d := entry

theorem storable_decodeMpeg {s : State} {b : Bytes} {h : MpegHeader} (sound : CacheSound s)
    (parsed : (decodeMpeg b s).1 = .parsed h) : Storable s (.mpeg h) b ∧ 4 ≤ h.frameLength := by
  obtain ⟨long, fields⟩ := decodeMpeg_parsed sound parsed
  refine ⟨(entrySound_mpeg _ _ _ _).mpr ⟨rfl, ?_, ?_⟩, mpegFields_frameLength fields⟩
  · simpa [cacheKeyOf] using long
  · exact (mpegFields_mpegKey b).trans fields

theorem storable_decodeAdts {s : State} {b : Bytes} {h : AdtsHeader} (sound : CacheSound s)
    (parsed : (decodeAdts b s).1 = .parsed h) : Storable s (.adts h) b ∧ 4 ≤ h.frameLength := by
  obtain ⟨f, fixed, rfl, length⟩ := decodeAdts_parsed sound parsed
  refine ⟨(entrySound_adts _ _ _ _).mpr ⟨rfl, rfl, ?_⟩, (four_le_adtsHeaderLength _).trans length⟩
  rw [adtsFixed_ofHeader_record]
  exact (adtsFixedOf_adtsKey b).trans fixed

theorem storable_decodeFlac {s : State} {b : Bytes} {h : FlacHeader} (sound : CacheSound s)
    (identified : s.codecSel ≠ 3 ∨ s.idHeader.isSome = true)
    (parsed : (decodeFlac b (flacReference s) s).1 = .parsed h) :
    Storable s (.flac h) b ∧ 4 ≤ h.headerLength := by
  obtain ⟨long, f, n, fixed, record⟩ := decodeFlac_parsed sound rfl parsed
  obtain ⟨length, -⟩ := flacRecord_eq_some record
  refine ⟨(entrySound_flac _ _ _ _).mpr ⟨rfl, ?_, ?_, identified⟩, ?_⟩
  · simpa [cacheKeyOf] using long
  · rw [flacFixed_ofHeader_record (flacFixedOf_coded fixed) record]
    exact (flacFixedOf_flacKey b _).trans fixed
  · rw [length]
    exact four_le_flacHeaderLength f n

theorem storable_opus {s : State} {i : OpusId} (p : Bytes) (count : Nat)
    (held : s.idHeader = some (.opus i)) :
    Storable s (.opus (opusRecord i (opusConfig (field (byteAt p 0) 7 3)) p count)) p := by
  have last : (opusKey s p).getLastD 0 = byteAt p 0 := opusKey_getLastD s p
  refine (entrySound_opus _ (opusKey s p) _ _).mpr ⟨rfl, held, ?_⟩
  rw [last]
  rfl

theorem storable_vorbis {s : State} {v : VorbisHeader} (p : Bytes)
    (held : s.idHeader = some (.vorbis v.id)) : Storable s (.vorbis v) p :=
  (entrySound_vorbis _ _ _ _).mpr ⟨rfl, held⟩

theorem cacheSound_of_empty {s : State} (empty : s.cacheMap = []) : CacheSound s := by
  unfold CacheSound
  rw [empty]
  rfl

theorem CacheSound.relooked {s u : State} (sound : CacheSound s) (look : Relooked s u) :
    CacheSound u := by
  obtain ⟨k, rfl⟩ := look
  exact sound

theorem CacheSound.advanceBy {s : State} (sound : CacheSound s) (n : Nat) :
    CacheSound (advanceBy n s) := sound

theorem CacheSound.gainSync {s : State} (sound : CacheSound s) : CacheSound (gainSync s) := sound

theorem CacheSound.warn {s : State} (sound : CacheSound s) (w : Warning) (off : Nat) (info : WarnInfo) :
    CacheSound (warn w off info s) := by
  obtain ⟨q, e, -⟩ := warn_outQ_only w off info s
  rw [e]
  exact sound

theorem cacheSound_cacheStore {s : State} {key : Bytes} {h : Header} {i : Identity}
    (sound : CacheSound s) (entry : entrySound s (key, h, i) = true) :
    CacheSound (cacheStore key h i s) := by
  rcases cacheStore_cases key h i s with ⟨-, e⟩ | ⟨-, -, e⟩ | ⟨-, -, -, e⟩ <;> rw [e]
  · exact sound
  · exact sound
  · have inserted : (cacheInsert s.cacheMap key (h, i)).all (entrySound s) = true := by
      rw [cacheInsert_all, entry, Bool.true_and]
      exact sound
    exact inserted

theorem afterFrame_cacheMap (h : Header) (d : Bytes) (s : State) :
    (afterFrame h d s).cacheMap
      = (cacheStore (cacheKeyOf h d s.idRaw) h (identityFields h) s).cacheMap := by
  cases on : s.cacheEn <;> simp [afterFrame, cacheStore, on]

/-- A frame whose entry is sound keeps the cache sound (R169, R172). -/
theorem CacheSound.afterFrame {s : State} {h : Header} {d : Bytes} (sound : CacheSound s)
    (entry : Storable s h d) : CacheSound (afterFrame h d s) := by
  have stored := cacheSound_cacheStore sound entry
  have entries : entrySound (cacheStore (cacheKeyOf h d s.idRaw) h (identityFields h) s)
      = entrySound (Machine.afterFrame h d s) := by
    obtain ⟨k, m, e⟩ := cacheStore_state (cacheKeyOf h d s.idRaw) h (identityFields h) s
    rw [e]
    rfl
  unfold CacheSound at stored ⊢
  rw [afterFrame_cacheMap, ← entries]
  exact stored

theorem CacheSound.emitFrame {s : State} {h : Header} {d : Bytes} (sound : CacheSound s)
    (entry : Storable s h d) (c t : Bool) : CacheSound (emitFrame h d c t s) := by
  rw [emitFrame_eq]
  exact sound.afterFrame entry

/-! ### Packets -/

/-- What the identification packets change, no entry depends on while no identification header is held. -/
theorem CacheSound.identified {s : State} (sound : CacheSound s) (fresh : s.idHeader = none)
    (i : IdHeader) (raw : Option Bytes) (info : Option StreamInfo) (vs : Option Nat) :
    CacheSound { s with idHeader := some i, idRaw := raw, streamInfo := info, vorbisState := vs } := by
  refine List.all_eq_true.mpr fun e he => ?_
  obtain ⟨key, h, id⟩ := e
  have old := List.all_eq_true.mp sound _ he
  cases h with
  | mpeg m => exact old
  | adts a => exact old
  | flac f =>
    rw [entrySound_flac] at old ⊢
    obtain ⟨hid, length, fixed, native⟩ := old
    have notOgg : s.codecSel ≠ 3 := by simpa [fresh] using native
    refine ⟨hid, length, ?_, .inl notOgg⟩
    simpa only [flacReference, if_neg notOgg] using fixed
  | opus o =>
    obtain ⟨-, held, -⟩ := (entrySound_opus _ _ _ _).mp old
    rw [fresh] at held
    cases held
  | vorbis v =>
    obtain ⟨-, held⟩ := (entrySound_vorbis _ _ _ _).mp old
    rw [fresh] at held
    cases held

/-- A packet parser's answer keeps the cache sound: its state is sound, and a frame's entry would be. -/
def PacketSound (p : Bytes) (r : PacketResult × State) : Prop :=
  CacheSound r.2 ∧ ∀ h, r.1 = .frame h → Storable r.2 h p

namespace PacketSound

theorem consumed {p : Bytes} {s : State} (sound : CacheSound s) : PacketSound p (.consumed, s) :=
  ⟨sound, fun h framed => by cases framed⟩

theorem badPacket {p : Bytes} {s : State} (sound : CacheSound s) :
    PacketSound p (Machine.badPacket p s) :=
  consumed (sound.warn _ _ _)

theorem badIdHeader {p : Bytes} {s : State} (sound : CacheSound s) :
    PacketSound p (Machine.badIdHeader p s) :=
  consumed (sound.warn _ _ _)

theorem opusIdPacket {s : State} (p : Bytes) (sound : CacheSound s) :
    PacketSound p (opusIdPacket p s) := by
  unfold Machine.opusIdPacket
  split
  · exact consumed sound
  · next fresh =>
    split
    · exact consumed (sound.identified (by simpa using fresh) _ _ s.streamInfo s.vorbisState)
    · exact badIdHeader sound

theorem opusAudioPacket {s : State} (p : Bytes) (sound : CacheSound s) :
    PacketSound p (opusAudioPacket p s) := by
  obtain ⟨k, q, e⟩ := opusAudioPacket_state p s
  refine ⟨by rw [e]; exact sound, fun h framed => ?_⟩
  obtain ⟨i, count, held, rfl⟩ := opusAudioPacket_frame sound framed
  exact storable_opus p count (by rw [e]; exact held)

theorem opusPacket {s : State} (p : Bytes) (sound : CacheSound s) : PacketSound p (opusPacket p s) := by
  unfold Machine.opusPacket
  split
  · exact opusIdPacket p sound
  · split
    · exact consumed sound
    · exact opusAudioPacket p sound

theorem vorbisIdPacket {s : State} (p : Bytes) (sound : CacheSound s) :
    PacketSound p (vorbisIdPacket p s) := by
  unfold Machine.vorbisIdPacket
  split
  · exact consumed sound
  · next fresh =>
    split
    · exact consumed (sound.identified (by simpa using fresh) _ _ s.streamInfo _)
    · exact badIdHeader sound

theorem vorbisSetupPacket {s : State} (p : Bytes) (sound : CacheSound s) :
    PacketSound p (vorbisSetupPacket p s) := by
  unfold Machine.vorbisSetupPacket
  split
  · exact consumed sound
  · exact consumed (s := { s with vorbisSetup := some p }) sound

theorem vorbisAudioPacket {s : State} (p : Bytes) (sound : CacheSound s) :
    PacketSound p (vorbisAudioPacket p s) := by
  unfold Machine.vorbisAudioPacket
  split
  · next i held => exact ⟨sound, fun h framed => by cases framed; exact storable_vorbis p held⟩
  · exact badPacket sound

theorem vorbisPacket {s : State} (p : Bytes) (sound : CacheSound s) :
    PacketSound p (vorbisPacket p s) := by
  unfold Machine.vorbisPacket
  split
  · exact badPacket sound
  · split
    · split
      · exact vorbisIdPacket p sound
      · split
        · exact consumed sound
        · split
          · exact vorbisSetupPacket p sound
          · exact badPacket sound
    · exact vorbisAudioPacket p sound

theorem oggFlacIdPacket {s : State} (p : Bytes) (sound : CacheSound s) :
    PacketSound p (oggFlacIdPacket p s) := by
  unfold Machine.oggFlacIdPacket
  split
  · exact consumed sound
  · next fresh =>
    split
    · exact consumed (sound.identified (by simpa using fresh) _ _ _ s.vorbisState)
    · exact badIdHeader sound

/-- In OGG mode a frame header may refer to streamInfo, which the identification header held fixes (R121,
R228). -/
theorem oggFlacFramePacket {s : State} (p : Bytes) (sound : CacheSound s) (ogg : s.codecSel = 3) :
    PacketSound p (oggFlacFramePacket p s) := by
  have reference : flacReference s = s.streamInfo := if_pos ogg
  have look : Relooked s (decodeFlac p s.streamInfo s).2 := decodeFlac_state _ _ s
  unfold Machine.oggFlacFramePacket
  split
  · next held =>
    split
    · next h t e =>
      have entry := (storable_decodeFlac sound (.inr held) (by rw [reference, e])).1
      rw [e] at look
      exact ⟨sound.relooked look, fun _ framed => by cases framed; exact entry.relooked look⟩
    · next e =>
      rw [e] at look
      exact badPacket (sound.relooked look)
  · exact badPacket sound

theorem oggFlacPacket {s : State} (p : Bytes) (sound : CacheSound s) (ogg : s.codecSel = 3) :
    PacketSound p (oggFlacPacket p s) := by
  unfold Machine.oggFlacPacket
  split
  · exact oggFlacIdPacket p sound
  · split
    · exact oggFlacFramePacket p sound ogg
    · exact consumed sound

theorem codecPacket {s : State} (p : Bytes) (sound : CacheSound s) (ogg : s.codecSel = 3) :
    PacketSound p (codecPacket p s) := by
  unfold Machine.codecPacket
  split
  · exact opusPacket p sound
  · exact vorbisPacket p sound
  · exact oggFlacPacket p sound ogg
  all_goals exact consumed sound

end PacketSound

/-! ### Pages -/

theorem CacheSound.dispatchPackets {s : State} (sound : CacheSound s) (ogg : s.codecSel = 3)
    (pk : List Bytes) (c : Bool) : CacheSound (dispatchPackets pk c s).2 := by
  induction pk generalizing s with
  | nil => exact sound
  | cons p rest ih =>
    have answer := PacketSound.codecPacket p sound ogg
    have sel := (SameInput.codecPacket p s).codecSel.trans ogg
    rcases hp : Machine.codecPacket p s with ⟨r, u⟩
    rw [hp] at answer sel
    obtain ⟨left, entry⟩ := answer
    by_cases framed : ∃ h, r = .frame h
    · obtain ⟨h, rfl⟩ := framed
      rw [dispatchPackets_frame rest c hp]
      exact ih (left.afterFrame (entry h rfl)) sel
    · rw [dispatchPackets_noFrame rest c hp (not_exists.mp framed)]
      exact ih left sel

theorem CacheSound.pagePackets {s : State} (sound : CacheSound s) (h : OggPageHeader) :
    CacheSound (pagePackets h s).2 := by
  obtain ⟨b, q, e, -⟩ := pagePackets_state h s
  rw [e]
  exact sound

/-- No entry depends on the codec register, which the sniff sets. -/
theorem CacheSound.recognise {s : State} (sound : CacheSound s) (pk : List Bytes) :
    CacheSound (recognise pk s).2 := by
  rcases recognise_cases pk s with e | ⟨c, -, -, e⟩ <;> rw [e] <;> exact sound

theorem pagePackets_codecSel (h : OggPageHeader) (s : State) :
    (pagePackets h s).2.codecSel = s.codecSel := by
  obtain ⟨b, q, e, -⟩ := pagePackets_state h s
  rw [e]

theorem recognise_codecSel (pk : List Bytes) (s : State) : (recognise pk s).2.codecSel = s.codecSel := by
  rcases recognise_cases pk s with e | ⟨c, -, -, e⟩ <;> rw [e]

theorem CacheSound.processPage {s : State} (sound : CacheSound s) (ogg : s.codecSel = 3)
    (h : OggPageHeader) (c : Bool) : CacheSound (processPage h c s) := by
  have known := (sound.pagePackets h).recognise (Machine.pagePackets h s).1
  have effects : CacheSound (Machine.pageEffects h c s) := by
    rw [pageEffects_eq]
    simp only
    split
    · refine known.dispatchPackets ?_ _ c
      rw [recognise_codecSel, pagePackets_codecSel, ogg]
    · exact known
  exact effects.advanceBy _

theorem CacheSound.truncatedPage {s : State} (sound : CacheSound s) (h : OggPageHeader) :
    CacheSound (truncatedPage h s) := by
  unfold Machine.truncatedPage
  simp only
  split <;> exact sound

/-! ### Micro-steps -/

/-- A unit at the cursor keeps the cache sound when it is taken: the entry of a frame is sound and its key
lies within the frame; pages come in OGG mode alone. -/
def UnitSound (s : State) : UnitHeader → Prop
  | .mpeg m => Storable s (.mpeg m) s.buf ∧ 4 ≤ m.frameLength
  | .adts a => Storable s (.adts a) s.buf ∧ 4 ≤ a.frameLength
  | .page _ => s.codecSel = 3

theorem UnitSound.relooked {s u : State} {h : UnitHeader} (unit : UnitSound s h)
    (look : Relooked s u) : UnitSound u h := by
  obtain ⟨k, rfl⟩ := look
  cases h <;> exact unit

theorem UnitSound.gainSync {s : State} {h : UnitHeader} (unit : UnitSound s h) :
    UnitSound (gainSync s) h := by
  cases h <;> exact unit

theorem unitSound_decodeAt {s : State} {h : UnitHeader} (sound : CacheSound s)
    (notFlac : s.codecSel ≠ 2) (parsed : (decodeAt 0 s).1 = .parsed h) : UnitSound s h := by
  have fits := pageFits_decodeAt 0 s h parsed
  unfold decodeAt at parsed
  split at parsed
  · obtain ⟨m, hm, rfl⟩ := mapResult_eq_parsed.mp parsed
    exact storable_decodeMpeg sound hm
  · obtain ⟨a, ha, rfl⟩ := mapResult_eq_parsed.mp parsed
    exact storable_decodeAdts sound ha
  · obtain ⟨p, -, rfl⟩ := mapResult_eq_parsed.mp parsed
    obtain ⟨sel, -⟩ := fits p rfl
    change s.codecSel = 3
    bv_omega

theorem CacheSound.acceptUnit {s : State} {h : UnitHeader} (sound : CacheSound s) (unit : UnitSound s h)
    (c : Bool) : CacheSound (acceptUnit h c s) := by
  cases h with
  | mpeg m =>
    obtain ⟨entry, whole⟩ := unit
    exact (sound.emitFrame (entry.take whole) c false).advanceBy _
  | adts a =>
    obtain ⟨entry, whole⟩ := unit
    exact (sound.emitFrame (entry.take whole) c false).advanceBy _
  | page p => exact sound.processPage unit p c

theorem CacheSound.acceptTruncated {s : State} {h : UnitHeader} (sound : CacheSound s)
    (unit : UnitSound s h) : CacheSound (acceptTruncated h s) := by
  cases h with
  | mpeg m =>
    obtain ⟨entry, -⟩ := unit
    exact (sound.emitFrame entry _ true).advanceBy _
  | adts a =>
    obtain ⟨entry, -⟩ := unit
    exact (sound.emitFrame entry _ true).advanceBy _
  | page p => exact sound.truncatedPage p

/-- Giving up sync empties the cache (R168). -/
theorem cacheSound_resync (w : Warning) (s : State) : CacheSound (resync w s) :=
  cacheSound_of_empty rfl

theorem cacheSound_confirmUnit {s t : State} {h : UnitHeader} (sound : CacheSound s)
    (unit : UnitSound s h) (hc : confirmUnit h s = .committed t) : CacheSound t := by
  unfold confirmUnit at hc
  split at hc
  · cases hc
  · next e =>
    have look := relooked_of_decodeAt e
    split at hc <;> cases hc
    · exact (sound.relooked look).acceptTruncated (unit.relooked look)
    · exact (sound.relooked look).acceptUnit (unit.relooked look) false
  · cases hc; exact cacheSound_resync _ _
  · next e =>
    have look := relooked_of_decodeAt e
    cases hc
    exact (sound.relooked look).gainSync.acceptUnit (unit.relooked look).gainSync true

theorem cacheSound_syncedUnit {s t : State} {h : UnitHeader} (sound : CacheSound s)
    (unit : UnitSound s h) (hc : syncedUnit h s = .committed t) : CacheSound t := by
  unfold syncedUnit at hc
  split at hc
  · split at hc
    · cases hc; exact sound.acceptTruncated unit
    · cases hc
  · cases hc
    exact sound.acceptUnit unit true

theorem cacheSound_fixedStep {s t : State} (sound : CacheSound s) (notFlac : s.codecSel ≠ 2)
    (hc : fixedStep s = .committed t) : CacheSound t := by
  unfold fixedStep at hc
  split at hc
  · cases hc
  · next h u e =>
    have look := relooked_of_decodeAt e
    have unit := unitSound_decodeAt sound notFlac (orSuspend_decodeAt _ _ _ _ e).1.symm
    split at hc
    · exact cacheSound_confirmUnit (sound.relooked look) (unit.relooked look) hc
    · exact cacheSound_syncedUnit (sound.relooked look) (unit.relooked look) hc
  · next e =>
    have look := relooked_of_decodeAt e
    split at hc <;> cases hc
    · exact (sound.relooked look).advanceBy 1
    · exact cacheSound_resync _ _

/-- A frame end the footer scan finds is no earlier than the first candidate (R150). -/
theorem le_of_flacScanFrom_found {tries p q : Nat} {rest : Bytes} {s t : State} {c : Bool}
    (h : flacScanFrom tries p rest s = .value (.found q c) t) : p ≤ q := by
  induction tries generalizing p rest s with
  | zero => cases h
  | succ n ih =>
    have later : ∀ {rest' s'}, flacScanFrom n (p + 1) rest' s' = .value (.found q c) t → p ≤ q :=
      fun h' => (Nat.le_succ p).trans (ih h')
    unfold flacScanFrom at h
    split at h
    · cases h
    split at h
    · split at h <;> cases h
      exact le_rfl
    split at h
    · split at h
      · exact later h
      · cases h
    split at h
    · exact later h
    split at h
    · exact later h
    split at h
    · cases h
    · cases h; exact le_rfl
    · cases h; exact le_rfl
    · exact later h

theorem CacheSound.acceptFlac {s : State} {h : FlacHeader} {p : Nat} (sound : CacheSound s)
    (entry : Storable s (.flac h) s.buf) (whole : 4 ≤ p) (c : Bool) :
    CacheSound (acceptFlac h p c s) := by
  unfold Machine.acceptFlac
  simp only
  split
  · exact (sound.gainSync.emitFrame (entry.gainSync.take whole) _ false).advanceBy p
  · exact (sound.emitFrame (entry.take whole) _ false).advanceBy p

theorem cacheSound_flacStep {s t : State} (sound : CacheSound s) (native : s.codecSel = 2)
    (hc : flacStep s = .committed t) : CacheSound t := by
  have notOgg : s.codecSel ≠ 3 := by rw [native]; decide
  have reference : flacReference s = none := if_neg notOgg
  unfold flacStep at hc
  split at hc
  · cases hc
  · next h u e =>
    have look := relooked_of_decodeFlac e
    have parsed : (decodeFlac s.buf (flacReference s) s).1 = .parsed h := by
      rw [reference]
      exact (orSuspend_decodeFlac _ _ _ _ _ _ e).1.symm
    obtain ⟨entry, header⟩ := storable_decodeFlac sound (.inl notOgg) parsed
    split at hc
    · cases hc
    · cases hc; exact cacheSound_resync _ _
    · next p c v e' =>
      cases hc
      have look' := look.trans (flacScanFrom_found_le e').1
      have first : h.headerLength + Config.minFlacFrame ≤ p := le_of_flacScanFrom_found e'
      refine (sound.relooked look').acceptFlac ?_ ((header.trans (Nat.le_add_right _ _)).trans first) c
      rw [look'.sameInput.buf]
      exact entry.relooked look'
  · next e =>
    have look := relooked_of_decodeFlac e
    split at hc <;> cases hc
    · exact (sound.relooked look).advanceBy 1
    · exact cacheSound_resync _ _

/-- A committed micro-step keeps the cache sound. -/
theorem cacheSound_microStep {s t : State} (sound : CacheSound s) (hc : microStep s = .committed t) :
    CacheSound t := by
  unfold microStep at hc
  split at hc
  · cases hc
  · split at hc
    · next native => exact cacheSound_flacStep sound native hc
    · next notFlac => exact cacheSound_fixedStep sound notFlac hc

/-! ### Commands -/

/-- PULL's loop keeps the cache sound: by committed micro-steps, then by one of its three ends (R78). -/
theorem cacheSound_pullLoop {s t : State} (turns : Nat) (sound : CacheSound s)
    (hp : pullLoop turns s = .next t) : CacheSound t := by
  obtain ⟨u, left, ⟨e, rest, -, rfl⟩ | ⟨n, -, -, rfl⟩ | ⟨v, -, hm, rfl⟩⟩ :=
    pullLoop_next (P := CacheSound) (fun _ _ hu _ hc => cacheSound_microStep hu hc) turns s t sound hp
  · exact left
  · exact left
  · obtain ⟨-, -, rfl⟩ := microStep_flushed u v hm
    exact cacheSound_of_empty rfl

/-- A host command keeps the cache sound: CONFIG empties it, PULL runs micro-steps, and the others leave it
and the identification. -/
theorem cacheSound_exec {s t : State} {i : Instr} (sound : CacheSound s)
    (host : Laws.hostCommand i = true) (he : exec i s = .next t) : CacheSound t := by
  cases i with
  | config sel log crc =>
    change execConfig sel log crc s = .next t at he
    by_cases supported : sel.toNat < 4
    · rw [execConfig_supported s sel log crc supported, configure_eq s sel log crc supported] at he
      cases he
      exact cacheSound_of_empty rfl
    · rw [execConfig_unsupported s sel log crc (Nat.not_lt.mp supported)] at he
      cases he
      exact cacheSound_of_empty rfl
  | push d =>
    change execPush d s = .next t at he
    unfold execPush at he
    split at he
    · cases he; exact sound
    split at he <;> cases he <;> exact sound
  | pull =>
    change execPull s = .next t at he
    unfold execPull at he
    split at he
    · cases he; exact sound
    · exact cacheSound_pullLoop _ sound he
  | flush =>
    change execFlush s = .next t at he
    unfold execFlush at he
    split at he <;> cases he <;> exact sound
  | getcodec => cases he; exact sound
  | rdreg reg =>
    change execRdreg reg s = .next t at he
    unfold execRdreg at he
    split at he <;> cases he <;> exact sound
  | _ => cases host

/-- Settles O47: with no unit request pending the step is idle, refuses a word, or runs a host command. -/
theorem cacheSoundnessIsKept : Obligations.CacheSoundnessIsKept := by
  intro s t inv sound hstep
  have noRequest : s.unitReq = none := ((hostInv_iff s).mp inv).1.noRequest
  cases hd : decodeChannel s.chan with
  | incomplete =>
    rw [step_of_incomplete noRequest hd] at hstep
    cases hstep
    exact sound
  | illegal e rest =>
    rw [step_of_illegal noRequest hd] at hstep
    cases hstep
    exact sound
  | command i rest =>
    rw [step_of_command noRequest hd] at hstep
    exact cacheSound_exec (s := { s with chan := rest }) sound (hostCommand_of_decodeChannel hd) hstep

end Sys2Proof.Machine

/-! More input behind the buffer (R85, R135, R141). A micro-step reads no byte before the REQUIRE that covers
it is satisfied, so that bytes at the tail change nothing but a suspension; the response of the last command
is not read at all. -/

namespace Sys2Proof.Machine

/-! ### More input, and another response -/

/-- The state with the bytes d at the tail and the response r in the latch: what the host can write between
two micro-steps. Reducible, so that every other field of it is the state's own to simp. -/
@[reducible] def behind (d : Bytes) (r : Option Response) (s : State) : State :=
  { s with buf := s.buf ++ d, totalIn := s.totalIn + BitVec.ofNat 64 d.length, resp := r }

/-- A function's answer, its state with more input behind. -/
@[reducible] def behindPair {α : Type} (d : Bytes) (r : Option Response) (a : α × State) : α × State :=
  (a.1, behind d r a.2)

theorem appendBytes_eq_behind (d : Bytes) (s : State) : appendBytes d s = behind d s.resp s := rfl

theorem behind_nil (r : Option Response) (s : State) : behind [] r s = { s with resp := r } := by
  simp [behind]

section

variable (d : Bytes) (r : Option Response)

/-! ### Events, frames, decoders: they read neither buffer nor response -/

theorem warn_behind (w : Warning) (off : Nat) (info : WarnInfo) (s : State) :
    warn w off info (behind d r s) = behind d r (warn w off info s) := by
  unfold warn
  split <;> rfl

theorem afterFrame_behind (h : Header) (data : Bytes) (s : State) :
    afterFrame h data (behind d r s) = behind d r (afterFrame h data s) := by
  have map := cacheStore_cacheMap_congr (s := s) (t := behind d r s) (cacheKeyOf h data s.idRaw) h
    (identityFields h) rfl rfl rfl
  simp only [afterFrame, map]
  rfl

theorem emitFrame_behind (h : Header) (data : Bytes) (c t : Bool) (s : State) :
    emitFrame h data c t (behind d r s) = behind d r (emitFrame h data c t s) := by
  rw [emitFrame_eq, emitFrame_eq, afterFrame_behind]
  rfl

theorem cacheLookup_behind (key : Bytes) (s : State) :
    cacheLookup key (behind d r s) = behindPair d r (cacheLookup key s) := by
  simp only [cacheLookup]
  split
  · rcases cacheFind s.cacheMap key with _ | hit <;> rfl
  · rfl

theorem decodeMpeg_behind (b : Bytes) (s : State) :
    decodeMpeg b (behind d r s) = behindPair d r (decodeMpeg b s) := by
  simp only [decodeMpeg, cacheLookup_behind]
  split
  · rfl
  · rcases cachedMpeg (cacheLookup (mpegKey b) s).1 with _ | h
    · rcases mpegFields b with _ | h <;> rfl
    · rfl

theorem decodeAdts_behind (b : Bytes) (s : State) :
    decodeAdts b (behind d r s) = behindPair d r (decodeAdts b s) := by
  simp only [decodeAdts, cacheLookup_behind]
  split
  · rfl
  · rcases (cachedAdts (cacheLookup (adtsKey b) s).1).orElse fun _ => adtsFixedOf b with _ | f
    · rfl
    · simp only
      split_ifs <;> rfl

theorem decodeFlac_behind (b : Bytes) (si : Option StreamInfo) (s : State) :
    decodeFlac b si (behind d r s) = behindPair d r (decodeFlac b si s) := by
  simp only [decodeFlac, cacheLookup_behind]
  split
  · rfl
  · rcases (cachedFlac (cacheLookup (flacKey b) s).1).orElse fun _ => flacFixedOf b si with _ | f
    · rfl
    · rcases codedLength (byteAt b 4) with _ | n <;> simp only
      · split <;> rfl
      · rcases flacRecord f b n with _ | h <;> split_ifs <;> rfl

/-! ### Packets -/

theorem badPacket_behind (p : Bytes) (s : State) :
    badPacket p (behind d r s) = behindPair d r (badPacket p s) := by
  rw [badPacket, warn_behind]
  rfl

theorem badIdHeader_behind (p : Bytes) (s : State) :
    badIdHeader p (behind d r s) = behindPair d r (badIdHeader p s) := by
  rw [badIdHeader, warn_behind]
  rfl

theorem opusIdPacket_behind (p : Bytes) (s : State) :
    opusIdPacket p (behind d r s) = behindPair d r (opusIdPacket p s) := by
  simp only [opusIdPacket, badIdHeader_behind]
  rcases decodeOpusId p with _ | h <;> split <;> rfl

theorem opusAudioPacket_behind (p : Bytes) (s : State) :
    opusAudioPacket p (behind d r s) = behindPair d r (opusAudioPacket p s) := by
  have key : opusKey (behind d r s) p = opusKey s p := rfl
  simp only [opusAudioPacket, badPacket_behind, key, cacheLookup_behind]
  rcases s.idHeader with _ | (i | i | i)
  · rfl
  · simp only
    split
    · rfl
    · rcases opusFrameCount p _ with _ | count <;> rfl
  · rfl
  · rfl

theorem opusPacket_behind (p : Bytes) (s : State) :
    opusPacket p (behind d r s) = behindPair d r (opusPacket p s) := by
  simp only [opusPacket, opusIdPacket_behind, opusAudioPacket_behind]
  split_ifs <;> rfl

theorem vorbisIdPacket_behind (p : Bytes) (s : State) :
    vorbisIdPacket p (behind d r s) = behindPair d r (vorbisIdPacket p s) := by
  simp only [vorbisIdPacket, badIdHeader_behind]
  rcases decodeVorbisId p with _ | h <;> split <;> rfl

theorem vorbisSetupPacket_behind (p : Bytes) (s : State) :
    vorbisSetupPacket p (behind d r s) = behindPair d r (vorbisSetupPacket p s) := by
  simp only [vorbisSetupPacket]
  split <;> rfl

theorem vorbisAudioPacket_behind (p : Bytes) (s : State) :
    vorbisAudioPacket p (behind d r s) = behindPair d r (vorbisAudioPacket p s) := by
  simp only [vorbisAudioPacket, badPacket_behind]
  rcases s.idHeader with _ | (i | i | i) <;> rfl

theorem vorbisPacket_behind (p : Bytes) (s : State) :
    vorbisPacket p (behind d r s) = behindPair d r (vorbisPacket p s) := by
  simp only [vorbisPacket, badPacket_behind, vorbisIdPacket_behind, vorbisSetupPacket_behind,
    vorbisAudioPacket_behind]
  split_ifs <;> rfl

theorem oggFlacIdPacket_behind (p : Bytes) (s : State) :
    oggFlacIdPacket p (behind d r s) = behindPair d r (oggFlacIdPacket p s) := by
  simp only [oggFlacIdPacket, badIdHeader_behind]
  rcases decodeOggFlacId p with _ | h <;> split <;> rfl

theorem oggFlacFramePacket_behind (p : Bytes) (s : State) :
    oggFlacFramePacket p (behind d r s) = behindPair d r (oggFlacFramePacket p s) := by
  simp only [oggFlacFramePacket, badPacket_behind, decodeFlac_behind]
  split
  · rcases decodeFlac p s.streamInfo s with ⟨h | k | _, t⟩
    · rfl
    · exact badPacket_behind d r p t
    · exact badPacket_behind d r p t
  · rfl

theorem oggFlacPacket_behind (p : Bytes) (s : State) :
    oggFlacPacket p (behind d r s) = behindPair d r (oggFlacPacket p s) := by
  simp only [oggFlacPacket, oggFlacIdPacket_behind, oggFlacFramePacket_behind]
  split_ifs <;> rfl

theorem codecPacket_behind (p : Bytes) (s : State) :
    codecPacket p (behind d r s) = behindPair d r (codecPacket p s) := by
  simp only [codecPacket, opusPacket_behind, vorbisPacket_behind, oggFlacPacket_behind]
  cases s.codec <;> rfl

/-! ### Pages -/

theorem seqCheck_behind (h : OggPageHeader) (s : State) :
    seqCheck h (behind d r s) = behind d r (seqCheck h s) := by
  simp only [seqCheck, warn_behind]
  split <;> rfl

theorem setPending_behind (q : Bytes) (s : State) :
    setPending q (behind d r s) = behind d r (setPending q s) := by
  simp only [setPending]
  split
  · rfl
  · exact warn_behind d r _ _ _ { s with pending := [] }

theorem prependPending_behind (pk : List PagePacket) (s : State) :
    prependPending pk (behind d r s) = behindPair d r (prependPending pk s) := by
  cases pk with
  | nil => rfl
  | cons first rest =>
    simp only [prependPending]
    split <;> rfl

theorem holdBack_behind (pk : List PagePacket) (s : State) :
    holdBack pk (behind d r s) = behindPair d r (holdBack pk s) := by
  simp only [holdBack, setPending_behind]
  rcases pk.getLast? with _ | ⟨q, _ | _⟩ <;> rfl

theorem continuation_behind (pk : List PagePacket) (s : State) :
    continuation pk (behind d r s) = behindPair d r (continuation pk s) := by
  simp only [continuation, prependPending_behind, holdBack_behind]

theorem recognise_behind (pk : List Bytes) (s : State) :
    recognise pk (behind d r s) = behindPair d r (recognise pk s) := by
  simp only [recognise]
  split
  · cases pk with
    | nil => rfl
    | cons p rest =>
      simp only [sniff]
      rcases sniffCodec p with _ | c <;> rfl
  · rfl

theorem dispatchPackets_behind (pk : List Bytes) (c : Bool) (s : State) :
    dispatchPackets pk c (behind d r s) = behindPair d r (dispatchPackets pk c s) := by
  induction pk generalizing s with
  | nil => rfl
  | cons p rest ih =>
    have hp := codecPacket_behind d r p s
    rcases hr : codecPacket p s with ⟨res, u⟩
    rw [hr] at hp
    by_cases framed : ∃ h, res = .frame h
    · obtain ⟨h, rfl⟩ := framed
      rw [dispatchPackets_frame rest c hp, dispatchPackets_frame rest c hr, afterFrame_behind, ih]
      rfl
    · rw [dispatchPackets_noFrame rest c hp (not_exists.mp framed),
        dispatchPackets_noFrame rest c hr (not_exists.mp framed), ih]

end

section

variable {d : Bytes} {r : Option Response} {s : State}

theorem advanceBy_behind {n : Nat} (inside : n ≤ s.buf.length) :
    advanceBy n (behind d r s) = behind d r (advanceBy n s) := by
  simp [advanceBy, List.drop_append_of_le_length inside]

/-- A whole page is read from the head of the buffer alone. -/
theorem pageEffects_behind {h : OggPageHeader} (inside : h.pageLength ≤ s.buf.length) (c : Bool) :
    pageEffects h c (behind d r s) = behind d r (pageEffects h c s) := by
  have packets : pagePackets h (behind d r s) = behindPair d r (pagePackets h s) := by
    simp only [pagePackets, List.take_append_of_le_length inside, seqCheck_behind, continuation_behind]
  simp only [pageEffects_eq, packets, List.take_append_of_le_length inside, recognise_behind,
    dispatchPackets_behind]
  split <;> rfl

theorem processPage_behind {h : OggPageHeader} (inside : h.pageLength ≤ s.buf.length) (c : Bool) :
    processPage h c (behind d r s) = behind d r (processPage h c s) := by
  rw [processPage, pageEffects_behind inside]
  exact advanceBy_behind (by rw [(SameInput.pageEffects h c s).buf]; exact inside)

/-- A frame cut from the head of the buffer. -/
theorem advanceBy_emitFrame_behind {n : Nat} (inside : n ≤ s.buf.length) (h : Header) (c t : Bool) :
    advanceBy n (emitFrame h ((behind d r s).buf.take n) c t (behind d r s))
      = behind d r (advanceBy n (emitFrame h (s.buf.take n) c t s)) := by
  rw [List.take_append_of_le_length inside, emitFrame_behind]
  exact advanceBy_behind (by rw [(SameInput.emitFrame h _ c t s).buf]; exact inside)

theorem acceptUnit_behind {h : UnitHeader} (inside : unitLength h ≤ s.buf.length) (c : Bool) :
    acceptUnit h c (behind d r s) = behind d r (acceptUnit h c s) := by
  cases h with
  | mpeg m => exact advanceBy_emitFrame_behind inside (.mpeg m) c false
  | adts a => exact advanceBy_emitFrame_behind inside (.adts a) c false
  | page p => exact processPage_behind inside c

theorem acceptFlac_behind {p : Nat} (inside : p ≤ s.buf.length) (h : FlacHeader) (c : Bool) :
    acceptFlac h p c (behind d r s) = behind d r (acceptFlac h p c s) := by
  simp only [acceptFlac]
  split
  · exact advanceBy_emitFrame_behind (s := gainSync s) inside (.flac h) _ false
  · exact advanceBy_emitFrame_behind inside (.flac h) _ false

theorem resync_behind (w : Warning) (nonempty : s.buf ≠ []) :
    resync w (behind d r s) = behind d r (resync w s) := by
  rw [resync, warn_behind]
  refine advanceBy_behind (s := cacheReset { warn w 0 .absent s with mode := .seeking }) ?_
  change 1 ≤ (warn w 0 .absent s).buf.length
  rw [(SameInput.warn w 0 .absent s).buf]
  exact List.length_pos_iff.mpr nonempty

end

end Sys2Proof.Machine

namespace Sys2Proof.Machine

/-! ### Decoders read only the bytes their REQUIREs cover (R88, R135) -/

/-- The bytes e behind b do not meet the Need of an answer to b: it is asked for more still. -/
def StillShort {α : Type} (a : DecodeResult α) (b e : Bytes) : Prop :=
  ∀ k, a = .need k → (b ++ e).length < k

/-- An extended value has the bytes its code says, at least one (R123, R124). -/
def FlacFixed.Sized (f : FlacFixed) : Prop :=
  f.blockSize ≠ .extended 0 ∧ f.sampleRate ≠ .extended 0

section

variable {b : Bytes} (e : Bytes)

theorem byteAt_append {i : Nat} (inside : i < b.length) : byteAt (b ++ e) i = byteAt b i :=
  List.getD_append _ _ _ _ inside

theorem slice_append {i j : Nat} (inside : j ≤ b.length) : slice (b ++ e) i j = slice b i j := by
  rw [slice, ← List.drop_take, List.take_append_of_le_length inside, List.drop_take, slice]

theorem be16_append {i : Nat} (inside : i + 2 ≤ b.length) : be16 (b ++ e) i = be16 b i := by
  rw [be16, be16, byteAt_append e (by omega), byteAt_append e (by omega)]

theorem decodeMpeg_append {s : State} (short : StillShort (decodeMpeg b s).1 b e) :
    decodeMpeg (b ++ e) s = decodeMpeg b s := by
  by_cases few : b.length < 4
  · have few' := short 4 (by simp [decodeMpeg, few])
    rw [decodeMpeg, if_pos few', decodeMpeg, if_pos few]
  · have key : mpegKey (b ++ e) = mpegKey b := slice_append e (Nat.not_lt.mp few)
    have fields : mpegFields (b ++ e) = mpegFields b := by
      rw [← mpegFields_mpegKey, key, mpegFields_mpegKey]
    have few' : ¬(b ++ e).length < 4 := by rw [List.length_append]; omega
    simp only [decodeMpeg, if_neg few, if_neg few', key, fields]

theorem adtsFrameLength_append (whole : 7 ≤ b.length) : adtsFrameLength (b ++ e) = adtsFrameLength b := by
  simp only [adtsFrameLength, byteAt_append e (show 3 < b.length by omega),
    byteAt_append e (show 4 < b.length by omega), byteAt_append e (show 5 < b.length by omega)]

/-- The CRC bytes are read only where the header has them (R116). -/
theorem adtsRecord_append {f : AdtsFixed} (whole : adtsHeaderLength f.protectionAbsent ≤ b.length) :
    adtsRecord f (b ++ e) = adtsRecord f b := by
  have seven : 7 ≤ b.length := by
    unfold adtsHeaderLength at whole
    split at whole <;> omega
  have crc : (if adtsHeaderLength f.protectionAbsent = 9 then some (BitVec.ofNat 16 (be16 (b ++ e) 7))
      else none) = if adtsHeaderLength f.protectionAbsent = 9 then some (BitVec.ofNat 16 (be16 b 7))
      else none := by
    split
    · next nine => rw [be16_append e (by omega)]
    · rfl
  simp only [adtsRecord, crc, adtsFrameLength_append e seven, byteAt_append e (show 3 < b.length by omega),
    byteAt_append e (show 5 < b.length by omega), byteAt_append e (show 6 < b.length by omega)]

theorem decodeAdts_append {s : State} (short : StillShort (decodeAdts b s).1 b e) :
    decodeAdts (b ++ e) s = decodeAdts b s := by
  by_cases few : b.length < 7
  · have few' := short 7 (by simp [decodeAdts, few])
    rw [decodeAdts, if_pos few', decodeAdts, if_pos few]
  · have seven := Nat.not_lt.mp few
    have key : adtsKey (b ++ e) = adtsKey b := by
      simp only [adtsKey, byteAt_append e (show 0 < b.length by omega),
        byteAt_append e (show 1 < b.length by omega), byteAt_append e (show 2 < b.length by omega),
        byteAt_append e (show 3 < b.length by omega)]
    have fixed : adtsFixedOf (b ++ e) = adtsFixedOf b := by
      rw [← adtsFixedOf_adtsKey, key, adtsFixedOf_adtsKey]
    have few' : ¬(b ++ e).length < 7 := by rw [List.length_append]; omega
    simp only [decodeAdts, if_neg few, if_neg few', key, fixed, adtsFrameLength_append e seven] at short ⊢
    rcases hf : (cachedAdts (cacheLookup (adtsKey b) s).1).orElse fun _ => adtsFixedOf b with _ | f
    · rfl
    · simp only [hf] at short ⊢
      split
      · rfl
      · next long =>
        rw [if_neg long] at short
        by_cases crcShort : b.length < adtsHeaderLength f.protectionAbsent
        · rw [if_pos crcShort, if_pos (short _ (by rw [if_pos crcShort]))]
        · rw [if_neg crcShort, adtsRecord_append e (Nat.not_lt.mp crcShort),
            if_neg (by rw [List.length_append]; omega)]

theorem FlacFixed.Coded.sized {f : FlacFixed} {si : Option StreamInfo} (h : f.Coded si) : f.Sized := by
  obtain ⟨size, rate⟩ := h
  refine ⟨fun zero => ?_, fun zero => ?_⟩
  · rw [zero] at size
    rcases flacBlockSize_extended size with ⟨-, h⟩ | ⟨-, h⟩ <;> cases h
  · rw [zero] at rate
    rcases flacSampleRate_extended rate with ⟨-, h⟩ | ⟨-, h⟩ | ⟨-, h⟩ <;> cases h

theorem FlacFixed.sized_ofHeader (h : FlacHeader) : (FlacFixed.ofHeader h).Sized := by
  unfold FlacFixed.Sized FlacFixed.ofHeader
  constructor <;> simp only <;> split <;> simp

theorem flacFixed_sized {hit : Option (Header × Identity)} {si : Option StreamInfo} {f : FlacFixed}
    (h : ((cachedFlac hit).orElse fun _ => flacFixedOf b si) = some f) : f.Sized := by
  unfold cachedFlac at h
  split at h
  · cases h
    exact FlacFixed.sized_ofHeader _
  · exact (flacFixedOf_coded h).sized

theorem flacBlockSizeAt_append {f : FlacFixed} (sized : f.Sized) {i : Nat}
    (inside : i + f.blockSize.extra ≤ b.length) : flacBlockSizeAt f (b ++ e) i = flacBlockSizeAt f b i := by
  obtain ⟨size, -⟩ := sized
  unfold flacBlockSizeAt
  split
  · rfl
  · next h =>
    rw [h, FlacCoded.extra] at inside
    rw [byteAt_append e (by omega)]
  · next k notOne h =>
    rw [h] at size inside
    rw [FlacCoded.extra] at inside
    have : k ≠ 0 := fun zero => size (by rw [zero])
    have : k ≠ 1 := fun one => notOne one
    rw [be16_append e (by omega)]

theorem flacSampleRateAt_append {f : FlacFixed} (sized : f.Sized) {i : Nat}
    (inside : i + f.sampleRate.extra ≤ b.length) :
    flacSampleRateAt f (b ++ e) i = flacSampleRateAt f b i := by
  obtain ⟨-, rate⟩ := sized
  unfold flacSampleRateAt
  split
  · rfl
  · next h =>
    rw [h, FlacCoded.extra] at inside
    rw [byteAt_append e (by omega)]
  · next k notOne h =>
    rw [h] at rate inside
    rw [FlacCoded.extra] at inside
    have : k ≠ 0 := fun zero => rate (by rw [zero])
    have : k ≠ 1 := fun one => notOne one
    rw [be16_append e (by omega)]

theorem codedNumber_append {n : Nat} (inside : n ≤ b.length) (nonempty : 0 < b.length) :
    codedNumber (b ++ e) n = codedNumber b n := by
  simp only [codedNumber, byteAt_append e nonempty, slice_append e inside]

/-- A whole header is read within its length (R127 to R131). -/
theorem flacRecord_append {f : FlacFixed} (sized : f.Sized) {n : Nat}
    (whole : flacHeaderLength f n ≤ b.length) : flacRecord f (b ++ e) n = flacRecord f b n := by
  have length : flacHeaderLength f n = 4 + n + f.blockSize.extra + f.sampleRate.extra + 1 := rfl
  have number : codedNumber ((b ++ e).drop 4) n = codedNumber (b.drop 4) n := by
    rw [List.drop_append_of_le_length (by omega)]
    exact codedNumber_append e (by rw [List.length_drop]; omega) (by rw [List.length_drop]; omega)
  have check : byteAt (b ++ e) (flacHeaderLength f n - 1) = byteAt b (flacHeaderLength f n - 1) :=
    byteAt_append e (by omega)
  have checked : (b ++ e).take (flacHeaderLength f n - 1) = b.take (flacHeaderLength f n - 1) :=
    List.take_append_of_le_length (by omega)
  have size : flacBlockSizeAt f (b ++ e) (4 + n) = flacBlockSizeAt f b (4 + n) :=
    flacBlockSizeAt_append e sized (by omega)
  have rate : flacSampleRateAt f (b ++ e) (4 + n + f.blockSize.extra)
      = flacSampleRateAt f b (4 + n + f.blockSize.extra) := flacSampleRateAt_append e sized (by omega)
  simp only [flacRecord, number, check, checked, size, rate]

theorem decodeFlac_append {si : Option StreamInfo} {s : State}
    (short : StillShort (decodeFlac b si s).1 b e) : decodeFlac (b ++ e) si s = decodeFlac b si s := by
  by_cases few : b.length < 4
  · have few' := short 4 (by simp [decodeFlac, few])
    rw [decodeFlac, if_pos few', decodeFlac, if_pos few]
  · have key : flacKey (b ++ e) = flacKey b := slice_append e (Nat.not_lt.mp few)
    have fixed : flacFixedOf (b ++ e) si = flacFixedOf b si := by
      rw [← flacFixedOf_flacKey, key, flacFixedOf_flacKey]
    have few' : ¬(b ++ e).length < 4 := by rw [List.length_append]; omega
    simp only [decodeFlac, if_neg few, if_neg few', key, fixed] at short ⊢
    rcases hf : (cachedFlac (cacheLookup (flacKey b) s).1).orElse fun _ => flacFixedOf b si with _ | f
    · rfl
    · simp only [hf] at short ⊢
      by_cases noNumber : b.length < 5
      · rw [if_pos noNumber, if_pos (short 5 (by rw [if_pos noNumber]))]
      · have noNumber' : ¬(b ++ e).length < 5 := by rw [List.length_append]; omega
        simp only [if_neg noNumber, if_neg noNumber', byteAt_append e (Nat.not_lt.mp noNumber)] at short ⊢
        rcases hn : codedLength (byteAt b 4) with _ | n
        · rfl
        · simp only [hn] at short ⊢
          by_cases part : b.length < flacHeaderLength f n
          · rw [if_pos part, if_pos (short _ (by rw [if_pos part]))]
          · rw [if_neg part, flacRecord_append e (flacFixed_sized hf) (Nat.not_lt.mp part),
              if_neg (by rw [List.length_append]; omega)]

theorem oggPageRecord_append (whole : 27 + (byteAt b 26).toNat ≤ b.length) :
    oggPageRecord (b ++ e) = oggPageRecord b := by
  have byte : ∀ i, i < 27 → byteAt (b ++ e) i = byteAt b i := fun i hi => byteAt_append e (by omega)
  have cut : ∀ i j, j ≤ 27 + (byteAt b 26).toNat → slice (b ++ e) i j = slice b i j :=
    fun i j hj => slice_append e (by omega)
  simp only [oggPageRecord, le32, le64, byte 4 (by decide), byte 5 (by decide), byte 26 (by decide),
    cut 27 _ le_rfl, cut 6 _ (show 6 + 8 ≤ 27 + (byteAt b 26).toNat by omega),
    cut 14 _ (show 14 + 4 ≤ 27 + (byteAt b 26).toNat by omega),
    cut 18 _ (show 18 + 4 ≤ 27 + (byteAt b 26).toNat by omega),
    cut 22 _ (show 22 + 4 ≤ 27 + (byteAt b 26).toNat by omega)]

theorem decodeOggPage_append (short : StillShort (decodeOggPage b) b e) :
    decodeOggPage (b ++ e) = decodeOggPage b := by
  by_cases few : b.length < 27
  · have few' := short 27 (by simp [decodeOggPage, few])
    rw [decodeOggPage, if_pos few', decodeOggPage, if_pos few]
  · have few' : ¬(b ++ e).length < 27 := by rw [List.length_append]; omega
    have byte : ∀ i, i < 27 → byteAt (b ++ e) i = byteAt b i := fun i hi => byteAt_append e (by omega)
    have capture : slice (b ++ e) 0 4 = slice b 0 4 := slice_append e (by omega)
    simp only [decodeOggPage, if_neg few, if_neg few', capture, byte 4 (by decide), byte 5 (by decide),
      byte 26 (by decide)] at short ⊢
    by_cases part : b.length < 27 + (byteAt b 26).toNat
    · simp only [if_pos part] at short ⊢
      split_ifs at short ⊢ with h1 h2 h3 h4
      · rfl
      · rfl
      · rfl
      · rfl
      · exact absurd (short _ rfl) h4
    · have part' : ¬(b ++ e).length < 27 + (byteAt b 26).toNat := by rw [List.length_append]; omega
      simp only [if_neg part, if_neg part', oggPageRecord_append e (Nat.not_lt.mp part)]

end

end Sys2Proof.Machine

namespace Sys2Proof.Machine

/-! ### A Need asks for more than there is (R88) -/

theorem decodeMpeg_need {b : Bytes} {s : State} {k : Nat} (h : (decodeMpeg b s).1 = .need k) :
    b.length < k := by
  unfold decodeMpeg at h
  split at h
  · cases h; assumption
  · simp only at h
    split at h
    · cases h
    · split at h <;> cases h

theorem decodeAdts_need {b : Bytes} {s : State} {k : Nat} (h : (decodeAdts b s).1 = .need k) :
    b.length < k := by
  unfold decodeAdts at h
  split at h
  · cases h; assumption
  · simp only at h
    split at h
    · cases h
    · split at h
      · cases h
      · split at h <;> cases h
        assumption

theorem decodeFlac_need {b : Bytes} {si : Option StreamInfo} {s : State} {k : Nat}
    (h : (decodeFlac b si s).1 = .need k) : b.length < k := by
  unfold decodeFlac at h
  split at h
  · cases h; assumption
  · simp only at h
    split at h
    · cases h
    · split at h
      · cases h; assumption
      · split at h
        · cases h
        · split at h
          · cases h; assumption
          · split at h <;> cases h

theorem decodeOggPage_need {b : Bytes} {k : Nat} (h : decodeOggPage b = .need k) : b.length < k := by
  unfold decodeOggPage at h
  simp only at h
  split_ifs at h <;> cases h <;> assumption

theorem mapResult_eq_need {α β : Type} {f : α → β} {a : DecodeResult α} {k : Nat} :
    mapResult f a = .need k ↔ a = .need k := by
  cases a <;> simp [mapResult]

/-! ### The decoder codecSel selects (R140) -/

theorem decodeAt_of_mpeg (off : Nat) {s : State} (mpeg : s.codecSel.toNat = 0) :
    decodeAt off s = (mapResult .mpeg (decodeMpeg (s.buf.drop off) s).1,
      (decodeMpeg (s.buf.drop off) s).2) := by
  simp only [decodeAt, mpeg]

theorem decodeAt_of_adts (off : Nat) {s : State} (adts : s.codecSel.toNat = 1) :
    decodeAt off s = (mapResult .adts (decodeAdts (s.buf.drop off) s).1,
      (decodeAdts (s.buf.drop off) s).2) := by
  simp only [decodeAt, adts]

theorem decodeAt_of_page (off : Nat) {s : State} (notMpeg : s.codecSel.toNat ≠ 0)
    (notAdts : s.codecSel.toNat ≠ 1) :
    decodeAt off s = (mapResult .page (decodeOggPage (s.buf.drop off)), s) := by
  unfold decodeAt
  split
  · contradiction
  · contradiction
  · rfl

theorem decodeAt_need {off : Nat} {s : State} {k : Nat} (h : (decodeAt off s).1 = .need k) :
    (s.buf.drop off).length < k := by
  unfold decodeAt at h
  split at h
  · exact decodeMpeg_need (mapResult_eq_need.mp h)
  · exact decodeAdts_need (mapResult_eq_need.mp h)
  · exact decodeOggPage_need (mapResult_eq_need.mp h)

/-! ### Parts of a micro-step with more input behind -/

/-- With more input behind, a part of a micro-step that goes on goes on the same, and one that suspends asks
for as many bytes fewer while it is still short (R141). -/
def Attempt.Extends {α : Type} (d : Bytes) (r : Option Response) : Attempt α → Attempt α → Prop
  | .suspend n, a => d.length < n → a = .suspend (n - d.length)
  | .value x t, a => a = .value x (behind d r t)

/-- The same of a whole micro-step that does not complete a flush. -/
def MicroOutcome.Extends (d : Bytes) (r : Option Response) : MicroOutcome → MicroOutcome → Prop
  | .suspend n, o => d.length < n → o = .suspend (n - d.length)
  | .committed t, o => o = .committed (behind d r t)
  | .flushed _, _ => False

/-- A REQUIRE that is short suspends outside a flush (R88). -/
theorem orSuspend_need {α : Type} {off k : Nat} {s : State} (running : s.flushing = false) :
    orSuspend off ((.need k : DecodeResult α), s) = .suspend (off + k - s.buf.length) := by
  simp [orSuspend, running]

/-- Outside a flush no part of a micro-step goes on with a Need. -/
theorem orSuspend_not_need {α : Type} {off k : Nat} {a : DecodeResult α × State} {t : State}
    (running : t.flushing = false) : orSuspend off a ≠ .value (.need k) t := by
  obtain ⟨x, u⟩ := a
  intro e
  rcases orSuspend_cases off (x, u) with ⟨e', flushing | answered⟩ | ⟨n, -, -, e'⟩ <;>
    rw [e'] at e <;> cases e
  · exact absurd (running.symm.trans flushing) (by decide)
  · exact answered k rfl

section

variable {d : Bytes} {r : Option Response} {s : State}

/-- A decoder's REQUIRE goes on the same or asks for as many fewer, when its answer is the same unless its
Need is met. -/
theorem orSuspend_extends {α : Type} {off : Nat} {a a' : DecodeResult α × State}
    (running : a.2.flushing = false)
    (same : (∀ k, a.1 = .need k → a.2.buf.length + d.length < off + k) → a' = behindPair d r a) :
    (orSuspend off a).Extends d r (orSuspend off a') := by
  obtain ⟨h | k | _, t⟩ := a
  · rw [same (by simp)]
    rfl
  · rw [orSuspend_need running]
    intro short
    have bound : ∀ k', (DecodeResult.need k : DecodeResult α) = .need k' →
        t.buf.length + d.length < off + k' := by
      rintro _ ⟨⟩
      simp only at short
      omega
    rw [same bound]
    refine (orSuspend_need (s := behind d r t) running).trans ?_
    rw [List.length_append, Nat.sub_add_eq]
  · rw [same (by simp)]
    rfl

/-- What is seen at an offset grows by what of d lies past it. -/
theorem stillShort_drop {α : Type} {a : DecodeResult α} {off : Nat}
    (need : ∀ k, a = .need k → (s.buf.drop off).length < k)
    (short : ∀ k, a = .need k → s.buf.length + d.length < off + k) :
    StillShort a (s.buf.drop off) (d.drop (off - s.buf.length)) := by
  intro k e
  have more := need k e
  have bound := short k e
  rw [← List.drop_append, List.length_drop, List.length_append]
  omega

theorem decodeAt_extends (off : Nat) (running : s.flushing = false) :
    (orSuspend off (decodeAt off s)).Extends d r (orSuspend off (decodeAt off (behind d r s))) := by
  obtain ⟨key, state⟩ := decodeAt_state off s
  refine orSuspend_extends (by rw [state]; exact running) fun short => ?_
  rw [state] at short
  by_cases mpeg : s.codecSel.toNat = 0
  · rw [decodeAt_of_mpeg off mpeg] at short ⊢
    simp only [mapResult_eq_need] at short
    rw [decodeAt_of_mpeg off (s := behind d r s) mpeg, List.drop_append, decodeMpeg_behind,
      decodeMpeg_append _ (stillShort_drop (fun _ => decodeMpeg_need) short)]
  by_cases adts : s.codecSel.toNat = 1
  · rw [decodeAt_of_adts off adts] at short ⊢
    simp only [mapResult_eq_need] at short
    rw [decodeAt_of_adts off (s := behind d r s) adts, List.drop_append, decodeAdts_behind,
      decodeAdts_append _ (stillShort_drop (fun _ => decodeAdts_need) short)]
  · rw [decodeAt_of_page off mpeg adts] at short ⊢
    simp only [mapResult_eq_need] at short
    rw [decodeAt_of_page off (s := behind d r s) mpeg adts, List.drop_append,
      decodeOggPage_append _ (stillShort_drop (fun _ => decodeOggPage_need) short)]

theorem decodeFlac_extends (off : Nat) (running : s.flushing = false) :
    (orSuspend off (decodeFlac (s.buf.drop off) none s)).Extends d r
      (orSuspend off (decodeFlac ((s.buf ++ d).drop off) none (behind d r s))) := by
  obtain ⟨key, state⟩ := decodeFlac_state (s.buf.drop off) none s
  refine orSuspend_extends (by rw [state]; exact running) fun short => ?_
  rw [state] at short
  rw [decodeFlac_behind, List.drop_append,
    decodeFlac_append _ (stillShort_drop (fun _ => decodeFlac_need) short)]

theorem confirmUnit_extends (h : UnitHeader) (running : s.flushing = false) (nonempty : s.buf ≠ []) :
    (confirmUnit h s).Extends d r (confirmUnit h (behind d r s)) := by
  have ext := decodeAt_extends (d := d) (r := r) (unitLength h) running
  unfold confirmUnit
  rcases hv : orSuspend (unitLength h) (decodeAt (unitLength h) s) with n | ⟨x, t⟩ <;>
    simp only [hv, Attempt.Extends] at ext ⊢
  · exact fun short => by rw [ext short]
  · have same := (relooked_of_decodeAt hv).sameInput
    rw [ext]
    cases x with
    | need k => exact absurd hv (orSuspend_not_need (same.flushing.trans running))
    | invalid =>
      exact congrArg _ (resync_behind _ (by rw [same.buf]; exact nonempty))
    | parsed h' =>
      have inside := decodeAt_inside hv (by simp)
      rw [← same.buf] at inside
      exact congrArg _ (acceptUnit_behind (s := gainSync t) inside.le true)

theorem syncedUnit_extends (h : UnitHeader) (running : s.flushing = false) :
    (syncedUnit h s).Extends d r (syncedUnit h (behind d r s)) := by
  unfold syncedUnit
  by_cases cut : s.buf.length < unitLength h
  · simp only [if_pos cut, running, Bool.false_eq_true, if_false]
    intro short
    rw [if_pos (by rw [List.length_append]; omega), List.length_append, Nat.sub_add_eq]
  · rw [if_neg cut, if_neg (by rw [List.length_append]; omega)]
    exact congrArg _ (acceptUnit_behind (Nat.not_lt.mp cut) true)

/-- Outside a flush a decoder that answers at the cursor has a byte before it. -/
theorem decodeAt_value_nonempty {t : State} {x : DecodeResult UnitHeader} (running : s.flushing = false)
    (hv : orSuspend 0 (decodeAt 0 s) = .value x t) : t.buf ≠ [] := by
  have same := (relooked_of_decodeAt hv).sameInput
  have inside := decodeAt_inside hv fun k e =>
    orSuspend_not_need (same.flushing.trans running) (e ▸ hv)
  rw [same.buf]
  exact List.ne_nil_of_length_pos inside

theorem fixedStep_extends (running : s.flushing = false) :
    (fixedStep s).Extends d r (fixedStep (behind d r s)) := by
  have ext := decodeAt_extends (d := d) (r := r) 0 running
  unfold fixedStep
  rcases hv : orSuspend 0 (decodeAt 0 s) with n | ⟨x, t⟩ <;> simp only [hv, Attempt.Extends] at ext ⊢
  · exact fun short => by rw [ext short]
  · have nonempty := decodeAt_value_nonempty running hv
    have running' := (relooked_of_decodeAt hv).sameInput.flushing.trans running
    rw [ext]
    cases x with
    | parsed h =>
      cases mode : t.mode <;> simp only [mode]
      · exact confirmUnit_extends h running' nonempty
      · exact syncedUnit_extends h running'
    | need k => exact absurd hv (orSuspend_not_need running')
    | invalid =>
      cases mode : t.mode <;> simp only [mode]
      · exact congrArg _ (advanceBy_behind (List.length_pos_iff.mpr nonempty))
      · exact congrArg _ (resync_behind _ nonempty)

/-! ### The footer scan -/

/-- The scan reads two bytes past a candidate, its header, and the bytes before it (R150). -/
theorem flacScanFrom_extends (tries p : Nat) (running : s.flushing = false) :
    (flacScanFrom tries p (s.buf.drop p) s).Extends d r
      (flacScanFrom tries p ((s.buf ++ d).drop p) (behind d r s)) := by
  induction tries generalizing p s with
  | zero => rfl
  | succ n ih =>
    have later : ∀ {t : State}, t.buf = s.buf → t.flushing = false →
        (flacScanFrom n (p + 1) (s.buf.drop p).tail t).Extends d r
          (flacScanFrom n (p + 1) ((s.buf ++ d).drop p).tail (behind d r t)) := by
      intro t buf running'
      rw [List.tail_drop, List.tail_drop, ← buf]
      exact ih (p + 1) running'
    simp only [flacScanFrom, running, Bool.false_eq_true, false_and, if_false]
    by_cases cut : s.buf.length < p + 2
    · rw [if_pos cut]
      intro short
      rw [if_pos (by rw [List.length_append]; omega), List.length_append, Nat.sub_add_eq]
    · have room : p + 2 ≤ s.buf.length := Nat.not_lt.mp cut
      have sync : flacSyncAt ((s.buf ++ d).drop p) = flacSyncAt (s.buf.drop p) := by
        rw [List.drop_append_of_le_length (by omega), flacSyncAt,
          byteAt_append _ (by rw [List.length_drop]; omega),
          byteAt_append _ (by rw [List.length_drop]; omega), flacSyncAt]
      have footer : footerOk p (behind d r s) = footerOk p s := by
        rw [footerOk, List.take_append_of_le_length (by omega), footerOk]
      have cut' : ¬(s.buf ++ d).length < p + 2 := by rw [List.length_append]; omega
      simp only [if_neg cut, if_neg cut', sync, footer]
      split
      · exact later rfl running
      split
      · exact later rfl running
      have ext := decodeFlac_extends (d := d) (r := r) p running
      rcases hv : orSuspend p (decodeFlac (s.buf.drop p) none s) with k | ⟨x, t⟩ <;>
        simp only [hv, Attempt.Extends] at ext ⊢
      · exact fun short => by rw [ext short]
      · have same := (relooked_of_decodeFlac hv).sameInput
        rw [ext]
        cases x with
        | parsed h => rfl
        | need k => rfl
        | invalid => exact later same.buf (same.flushing.trans running)

theorem decodeFlac_value_nonempty {t : State} {x : DecodeResult FlacHeader} (running : s.flushing = false)
    (hv : orSuspend 0 (decodeFlac s.buf none s) = .value x t) : t.buf ≠ [] := by
  have same := (relooked_of_decodeFlac hv).sameInput
  rw [same.buf]
  intro empty
  refine orSuspend_not_need (k := 4) (same.flushing.trans running) (hv.trans ?_)
  rw [(orSuspend_decodeFlac _ _ _ _ _ _ hv).1]
  simp [decodeFlac, empty]

theorem flacScan_extends (h : FlacHeader) (running : s.flushing = false) :
    (flacScan h s).Extends d r (flacScan h (behind d r s)) :=
  flacScanFrom_extends _ _ running

theorem flacStep_extends (running : s.flushing = false) :
    (flacStep s).Extends d r (flacStep (behind d r s)) := by
  have ext := decodeFlac_extends (d := d) (r := r) 0 running
  rw [List.drop_zero, List.drop_zero] at ext
  unfold flacStep
  rcases hv : orSuspend 0 (decodeFlac s.buf none s) with n | ⟨x, t⟩ <;>
    simp only [hv, Attempt.Extends] at ext ⊢
  · exact fun short => by rw [ext short]
  · have same := (relooked_of_decodeFlac hv).sameInput
    have running' := same.flushing.trans running
    rw [ext]
    have nonempty := decodeFlac_value_nonempty running hv
    cases x with
    | parsed h =>
      have scan := flacScan_extends (d := d) (r := r) h running'
      rcases hs : flacScan h t with n | ⟨y, u⟩ <;> simp only [hs, Attempt.Extends] at scan ⊢
      · exact fun short => by rw [scan short]
      · obtain ⟨look, found⟩ := flacScanFrom_found_le hs
        rw [scan]
        cases y with
        | notFound => exact congrArg _ (resync_behind _ (by rw [look.sameInput.buf]; exact nonempty))
        | found p c =>
          have inside := found p c rfl
          rw [← look.sameInput.buf] at inside
          exact congrArg _ (acceptFlac_behind inside h c)
    | need k => exact absurd hv (orSuspend_not_need running')
    | invalid =>
      cases mode : t.mode <;> simp only [mode]
      · exact congrArg _ (advanceBy_behind (List.length_pos_iff.mpr nonempty))
      · exact congrArg _ (resync_behind _ nonempty)

/-- A micro-step outside a flush with more input behind. -/
theorem microStep_extends (running : s.flushing = false) :
    (microStep s).Extends d r (microStep (behind d r s)) := by
  unfold microStep
  simp only [running, Bool.false_eq_true, false_and, if_false]
  split
  · exact flacStep_extends running
  · exact fixedStep_extends running

end

/-- Settles O56: appending is more input behind with the response as it was, which no committed micro-step
writes. -/
theorem moreInputNeverChangesACommitment : Obligations.MoreInputNeverChangesACommitment := by
  intro s d running
  have ext := microStep_extends (d := d) (r := s.resp) running
  rw [← appendBytes_eq_behind] at ext
  constructor
  · intro t hc
    rw [hc] at ext
    rw [appendBytes_eq_behind d t, (microStep_sameControl s t hc).resp]
    exact ext
  · intro n hs short
    rw [hs] at ext
    exact ext short

end Sys2Proof.Machine

/-! The commands PUSH and PULL (R77, R78): what PULL's loop does turn by turn, that it ends (R142), and that
after FLUSH it reaches END (R79). -/

namespace Sys2Proof.Machine

/-! ### PUSH -/

theorem execPush_unconfigured (d : Bytes) (s : State) (h : s.configured = false) :
    execPush d s = .next { s with resp := some (.err .notConfigured) } := by
  simp [execPush, h]

theorem execPush_flushing (d : Bytes) (s : State) (conf : s.configured = true) (h : s.flushing = true) :
    execPush d s = .next { s with resp := some (.err .flushing) } := by
  simp [execPush, conf, h]

theorem execPush_accepted (d : Bytes) (s : State) (conf : s.configured = true)
    (running : s.flushing = false) :
    execPush d s = .next { appendBytes (d.take (min d.length (s.par.bufCap - s.buf.length))) s with
      resp := some (.accepted (min d.length (s.par.bufCap - s.buf.length))) } := by
  simp [execPush, conf, running]

/-- Settles O7: the bytes taken are as many as the count says. -/
theorem pushAppendsWhatFits : Obligations.PushAppendsWhatFits := by
  intro s d k
  refine ⟨fun conf running => ?_, execPush_unconfigured d s, execPush_flushing d s⟩
  have count : (d.take k).length = k := by
    rw [List.length_take]
    exact Nat.min_eq_left (Nat.min_le_left _ _)
  refine (execPush_accepted d s conf running).trans ?_
  rw [appendBytes, count]

/-! ### A suspended micro-step asks for a byte at least, outside a flush -/

theorem orSuspend_suspend {α : Type} {off n : Nat} {a : DecodeResult α × State}
    (need : ∀ k, a.1 = .need k → (a.2.buf.drop off).length < k) (h : orSuspend off a = .suspend n) :
    a.2.flushing = false ∧ 1 ≤ n := by
  rcases orSuspend_cases off a with ⟨e, -⟩ | ⟨k, short, running, e⟩
  · rw [e] at h
    cases h
  · have more := need k short
    rw [e] at h
    cases h
    rw [List.length_drop] at more
    exact ⟨running, by omega⟩

theorem decodeAt_suspend {off n : Nat} {s : State} (h : orSuspend off (decodeAt off s) = .suspend n) :
    s.flushing = false ∧ 1 ≤ n := by
  have same : SameInput s (decodeAt off s).2 := Relooked.sameInput (decodeAt_state off s)
  rw [← same.flushing]
  exact orSuspend_suspend (fun k short => by rw [same.buf]; exact decodeAt_need short) h

theorem decodeFlac_suspend {off n : Nat} {s : State}
    (h : orSuspend off (decodeFlac (s.buf.drop off) none s) = .suspend n) :
    s.flushing = false ∧ 1 ≤ n := by
  have same := SameInput.decodeFlac (s.buf.drop off) none s
  rw [← same.flushing]
  exact orSuspend_suspend (fun k short => by rw [same.buf]; exact decodeFlac_need short) h

theorem fixedStep_suspend {s : State} {n : Nat} (h : fixedStep s = .suspend n) :
    s.flushing = false ∧ 1 ≤ n := by
  unfold fixedStep at h
  split at h
  · next e => cases h; exact decodeAt_suspend e
  · next u e =>
    have same := (relooked_of_decodeAt e).sameInput
    rw [← same.flushing]
    split at h
    · unfold confirmUnit at h
      split at h
      · next e' => cases h; exact decodeAt_suspend e'
      · split at h <;> cases h
      · cases h
      · cases h
    · unfold syncedUnit at h
      split at h
      · split at h <;> cases h
        next cut running => exact ⟨by simpa using running, by omega⟩
      · cases h
  · split at h <;> cases h

theorem flacScanFrom_suspend {tries p n : Nat} {s : State}
    (h : flacScanFrom tries p (s.buf.drop p) s = .suspend n) : s.flushing = false ∧ 1 ≤ n := by
  induction tries generalizing p s with
  | zero => cases h
  | succ m ih =>
    unfold flacScanFrom at h
    rw [List.tail_drop] at h
    split at h
    · cases h
    split at h
    · cases h
    split at h
    · next cut =>
      split at h
      · exact ih h
      · next running => cases h; exact ⟨by simpa using running, by omega⟩
    split at h
    · exact ih h
    split at h
    · exact ih h
    split at h
    · next e => cases h; exact decodeFlac_suspend e
    · cases h
    · cases h
    · next t e =>
      have same := (relooked_of_decodeFlac e).sameInput
      rw [← same.flushing]
      rw [← same.buf] at h
      exact ih h

theorem flacStep_suspend {s : State} {n : Nat} (h : flacStep s = .suspend n) :
    s.flushing = false ∧ 1 ≤ n := by
  unfold flacStep at h
  split at h
  · next e => cases h; exact decodeFlac_suspend (off := 0) e
  · next e =>
    have same := (relooked_of_decodeFlac e).sameInput
    rw [← same.flushing]
    split at h
    · next e' => cases h; exact flacScanFrom_suspend e'
    · cases h
    · cases h
  · split at h <;> cases h

/-- A suspended micro-step is outside a flush and asks for a byte at least (R88, R240). -/
theorem microStep_suspend {s : State} {n : Nat} (h : microStep s = .suspend n) :
    s.flushing = false ∧ 1 ≤ n := by
  unfold microStep at h
  split at h
  · cases h
  · split at h
    · exact flacStep_suspend h
    · exact fixedStep_suspend h

/-! ### A committed micro-step makes progress (R142) -/

theorem length_drop_lt {l : Bytes} {n : Nat} (nonempty : l ≠ []) (pos : 1 ≤ n) :
    (l.drop n).length < l.length := by
  have := List.length_pos_iff.mpr nonempty
  rw [List.length_drop]
  omega

theorem acceptUnit_buf (h : UnitHeader) (c : Bool) (s : State) :
    (acceptUnit h c s).buf = s.buf.drop (unitLength h) := by
  cases h with
  | mpeg m => exact congrArg (List.drop _) (SameInput.emitFrame _ _ _ _ s).buf
  | adts a => exact congrArg (List.drop _) (SameInput.emitFrame _ _ _ _ s).buf
  | page p => exact congrArg (List.drop _) (SameInput.pageEffects p c s).buf

theorem truncatedPage_buf (h : OggPageHeader) (s : State) : (truncatedPage h s).buf = [] := by
  unfold truncatedPage
  simp only
  split <;> exact List.drop_length

theorem acceptTruncated_buf (h : UnitHeader) (s : State) : (acceptTruncated h s).buf = [] := by
  cases h with
  | mpeg m => exact (congrArg (List.drop _) (SameInput.emitFrame _ _ _ _ s).buf).trans List.drop_length
  | adts a => exact (congrArg (List.drop _) (SameInput.emitFrame _ _ _ _ s).buf).trans List.drop_length
  | page p => exact truncatedPage_buf p s

theorem acceptFlac_buf (h : FlacHeader) (p : Nat) (c : Bool) (s : State) :
    (acceptFlac h p c s).buf = s.buf.drop p := by
  unfold acceptFlac
  simp only
  split <;> exact congrArg (List.drop _) (SameInput.emitFrame _ _ _ _ _).buf

theorem resync_buf (w : Warning) (s : State) : (resync w s).buf = s.buf.drop 1 :=
  congrArg (List.drop 1) (SameInput.warn w 0 .absent s).buf

theorem confirmUnit_consumes {s t : State} {h : UnitHeader} (nonempty : s.buf ≠ [])
    (long : 1 ≤ unitLength h) (hc : confirmUnit h s = .committed t) : t.buf.length < s.buf.length := by
  unfold confirmUnit at hc
  split at hc
  · cases hc
  · next e =>
    have same := (relooked_of_decodeAt e).sameInput
    split at hc <;> cases hc
    · rw [acceptTruncated_buf]
      exact List.length_pos_iff.mpr nonempty
    · rw [acceptUnit_buf, same.buf]
      exact length_drop_lt nonempty long
  · next e =>
    cases hc
    rw [resync_buf, (relooked_of_decodeAt e).sameInput.buf]
    exact length_drop_lt nonempty le_rfl
  · next u e =>
    cases hc
    have buf : (gainSync u).buf = s.buf := (relooked_of_decodeAt e).sameInput.buf
    rw [acceptUnit_buf, buf]
    exact length_drop_lt nonempty long

theorem syncedUnit_consumes {s t : State} {h : UnitHeader} (nonempty : s.buf ≠ [])
    (long : 1 ≤ unitLength h) (hc : syncedUnit h s = .committed t) : t.buf.length < s.buf.length := by
  unfold syncedUnit at hc
  split at hc
  · split at hc <;> cases hc
    rw [acceptTruncated_buf]
    exact List.length_pos_iff.mpr nonempty
  · cases hc
    rw [acceptUnit_buf]
    exact length_drop_lt nonempty long

/-- Where no header announces an empty unit, each commitment consumes a byte. -/
theorem fixedStep_consumes {s t : State} (nonempty : s.buf ≠ [])
    (long : ∀ h, (decodeAt 0 s).1 = .parsed h → 1 ≤ unitLength h) (hc : fixedStep s = .committed t) :
    t.buf.length < s.buf.length := by
  unfold fixedStep at hc
  split at hc
  · cases hc
  · next h u e =>
    have buf := (relooked_of_decodeAt e).sameInput.buf
    have long' := long h (orSuspend_decodeAt _ _ _ _ e).1.symm
    rw [← buf] at nonempty ⊢
    split at hc
    · exact confirmUnit_consumes nonempty long' hc
    · exact syncedUnit_consumes nonempty long' hc
  · next e =>
    have buf := (relooked_of_decodeAt e).sameInput.buf
    rw [← buf] at nonempty ⊢
    split at hc <;> cases hc
    · exact length_drop_lt nonempty le_rfl
    · rw [resync_buf]
      exact length_drop_lt nonempty le_rfl

/-- A native FLAC frame ends past its header. -/
theorem flacStep_consumes {s t : State} (nonempty : s.buf ≠ []) (hc : flacStep s = .committed t) :
    t.buf.length < s.buf.length := by
  unfold flacStep at hc
  split at hc
  · cases hc
  · next h u e =>
    have buf := (relooked_of_decodeFlac e).sameInput.buf
    split at hc
    · cases hc
    · next v e' =>
      cases hc
      rw [resync_buf, (flacScanFrom_found_le e').1.sameInput.buf, buf]
      exact length_drop_lt nonempty le_rfl
    · next p c v e' =>
      cases hc
      have first : h.headerLength + Config.minFlacFrame ≤ p := le_of_flacScanFrom_found e'
      have long : 1 ≤ p := by
        unfold Config.minFlacFrame at first
        omega
      rw [acceptFlac_buf, (flacScanFrom_found_le e').1.sameInput.buf, buf]
      exact length_drop_lt nonempty long
  · next e =>
    have buf := (relooked_of_decodeFlac e).sameInput.buf
    rw [← buf] at nonempty ⊢
    split at hc <;> cases hc
    · exact length_drop_lt nonempty le_rfl
    · rw [resync_buf]
      exact length_drop_lt nonempty le_rfl

/-- A page is at least its header of 27 bytes (R188). -/
theorem one_le_unitLength_of_ogg {off : Nat} {s : State} {h : UnitHeader} (ogg : s.codecSel = 3)
    (parsed : (decodeAt off s).1 = .parsed h) : 1 ≤ unitLength h := by
  rw [decodeAt_of_page off (by rw [ogg]; decide) (by rw [ogg]; decide)] at parsed
  obtain ⟨p, hp, rfl⟩ := mapResult_eq_parsed.mp parsed
  rw [decodeOggPage_parsed _ _ hp]
  simp only [unitLength, oggPageRecord]
  omega

/-- With a sound cache every committed micro-step consumes a byte at least (R142). -/
theorem microStep_consumes {s t : State} (sound : CacheSound s) (hc : microStep s = .committed t) :
    t.buf.length < s.buf.length := by
  have nonempty := microStep_committed_nonempty hc
  unfold microStep at hc
  split at hc
  · cases hc
  split at hc
  · exact flacStep_consumes nonempty hc
  · next notFlac =>
    refine fixedStep_consumes nonempty (fun h parsed => ?_) hc
    have unit := unitSound_decodeAt sound notFlac parsed
    cases h with
    | mpeg m => exact unit.2.trans' (by decide)
    | adts a => exact unit.2.trans' (by decide)
    | page p => exact one_le_unitLength_of_ogg unit parsed

/-- What is no page consumes a byte or queues a frame. -/
theorem MicroCommit.progress {s t : State} (h : MicroCommit s t) (nonempty : s.buf ≠ [])
    (notOgg : s.codecSel ≠ 3) : t.buf.length < s.buf.length ∨ t.outQ ≠ [] := by
  cases h with
  | skipped u look _ =>
    left
    rw [advanceBy_buf, look.sameInput.buf]
    exact length_drop_lt nonempty le_rfl
  | resynced w u look _ =>
    left
    rw [resync_buf, look.sameInput.buf]
    exact length_drop_lt nonempty le_rfl
  | frame hd n c tr u cursor _ =>
    right
    rw [advanceBy_outQ, emitFrame_eq, emit_outQ]
    exact List.append_ne_nil_of_right_ne_nil _ (List.cons_ne_nil _ _)
  | page hd c u cursor ogg _ _ => exact absurd ogg notOgg
  | cutPage hd u cursor =>
    left
    rw [truncatedPage_buf]
    exact List.length_pos_iff.mpr nonempty

/-- In every state a committed micro-step consumes a byte or queues an event (R142): an unsound cache may
supply a length of 0, but a frame is queued with it. -/
theorem microStep_progress {s t : State} (hc : microStep s = .committed t) :
    t.buf.length < s.buf.length ∨ t.outQ ≠ [] := by
  have nonempty := microStep_committed_nonempty hc
  have commit := microStep_commits hc
  by_cases ogg : s.codecSel = 3
  · left
    unfold microStep at hc
    rw [if_neg (by simp [nonempty]), if_neg (by rw [ogg]; decide)] at hc
    exact fixedStep_consumes nonempty (fun h parsed => one_le_unitLength_of_ogg ogg parsed) hc
  · exact commit.progress nonempty ogg

/-! ### PULL's loop turn by turn -/

section

variable {s : State} (turns : Nat)

theorem pullLoop_queued {e : Event} {rest : List Event} (queued : s.outQ = e :: rest) :
    pullLoop (turns + 1) s = .next { s with outQ := rest, resp := some (.event e) } := by
  simp [pullLoop, queued]

theorem pullLoop_suspended {n : Nat} (empty : s.outQ = []) (hm : microStep s = .suspend n) :
    pullLoop (turns + 1) s = .next { s with resp := some (.need n) } := by
  simp [pullLoop, empty, hm]

theorem pullLoop_flushed {t : State} (empty : s.outQ = []) (hm : microStep s = .flushed t) :
    pullLoop (turns + 1) s = .next { t with resp := some .finished } := by
  simp [pullLoop, empty, hm]

theorem pullLoop_committed {t : State} (empty : s.outQ = []) (hm : microStep s = .committed t) :
    pullLoop (turns + 1) s = pullLoop turns t := by
  simp [pullLoop, empty, hm]

end

/-- Turns that suffice: one more than there are bytes to consume, or one for a queued event. -/
def EnoughTurns (turns : Nat) (s : State) : Prop :=
  s.buf.length < turns ∨ s.outQ ≠ [] ∧ 0 < turns

theorem not_enoughTurns_zero (s : State) : ¬EnoughTurns 0 s := by
  rintro (h | ⟨-, h⟩) <;> exact Nat.not_lt_zero _ h

theorem enoughTurns_of_committed {turns : Nat} {s t : State} (enough : EnoughTurns (turns + 1) s)
    (empty : s.outQ = []) (hc : microStep s = .committed t) : EnoughTurns turns t := by
  have bytes := List.length_pos_iff.mpr (microStep_committed_nonempty hc)
  rcases enough with bound | ⟨queued, -⟩
  · rcases microStep_progress hc with consumed | queued
    · exact .inl (by omega)
    · exact .inr ⟨queued, by omega⟩
  · exact absurd empty queued

/-- The bound on the turns does not show once they suffice (log entry 8). -/
theorem pullLoop_turns {m n : Nat} {s : State} (hm : EnoughTurns m s) (hn : EnoughTurns n s) :
    pullLoop m s = pullLoop n s := by
  induction m generalizing n s with
  | zero => exact absurd hm (not_enoughTurns_zero s)
  | succ m ih =>
    cases n with
    | zero => exact absurd hn (not_enoughTurns_zero s)
    | succ n =>
      rcases queue : s.outQ with _ | ⟨e, rest⟩
      · cases hc : microStep s with
        | suspend k => rw [pullLoop_suspended m queue hc, pullLoop_suspended n queue hc]
        | flushed t => rw [pullLoop_flushed m queue hc, pullLoop_flushed n queue hc]
        | committed t =>
          rw [pullLoop_committed m queue hc, pullLoop_committed n queue hc]
          exact ih (enoughTurns_of_committed hm queue hc) (enoughTurns_of_committed hn queue hc)
      · rw [pullLoop_queued m queue, pullLoop_queued n queue]

/-- With turns enough the loop ends with one of PULL's three responses (R78). -/
theorem pullLoop_answers {turns : Nat} {s : State} (enough : EnoughTurns turns s) :
    ∃ t r, pullLoop turns s = .next t ∧ t.resp = some r ∧ isPullResponse r = true := by
  induction turns generalizing s with
  | zero => exact absurd enough (not_enoughTurns_zero s)
  | succ n ih =>
    rcases queue : s.outQ with _ | ⟨e, rest⟩
    · cases hc : microStep s with
      | suspend k =>
        exact ⟨_, _, pullLoop_suspended n queue hc, rfl, decide_eq_true (microStep_suspend hc).2⟩
      | flushed t => exact ⟨_, _, pullLoop_flushed n queue hc, rfl, rfl⟩
      | committed t =>
        rw [pullLoop_committed n queue hc]
        exact ih (enoughTurns_of_committed enough queue hc)
    · exact ⟨_, _, pullLoop_queued n queue, rfl, rfl⟩

/-! ### PULL -/

theorem exec_pull_unconfigured {s : State} (h : s.configured = false) :
    exec .pull s = .next { s with resp := some (.err .notConfigured) } := by
  change execPull s = _
  simp [execPull, h]

theorem exec_pull {s : State} (conf : s.configured = true) :
    exec .pull s = pullLoop (s.buf.length + 1 + 1) s := by
  change execPull s = _
  simp [execPull, conf]

/-- PULL goes on after a committed micro-step. -/
theorem exec_pull_committed {s t : State} (conf : s.configured = true) (empty : s.outQ = [])
    (hc : microStep s = .committed t) : exec .pull s = exec .pull t := by
  have conf' : t.configured = true := (microStep_sameControl s t hc).configured.trans conf
  have enough : EnoughTurns (s.buf.length + 1) t := enoughTurns_of_committed (.inl (by omega)) empty hc
  rw [exec_pull conf, exec_pull conf', pullLoop_committed _ empty hc]
  exact pullLoop_turns enough (.inl (by omega))

/-- A suspended micro-step suspends again, the response being no input of it (R141). -/
theorem microStep_suspend_resp {s : State} {n : Nat} (r : Option Response)
    (hs : microStep s = .suspend n) : microStep { s with resp := r } = .suspend n := by
  obtain ⟨running, pos⟩ := microStep_suspend hs
  have ext := microStep_extends (d := []) (r := r) running
  rw [hs, behind_nil] at ext
  exact ext pos

/-- Settles O8. -/
theorem pullFollowsItsLoop : Obligations.PullFollowsItsLoop := by
  intro s
  refine ⟨exec_pull_unconfigured, fun conf => ⟨fun e rest queued => ?_, fun empty => ⟨fun n hs => ?_,
    fun t hf => ?_, fun t => exec_pull_committed conf empty⟩, fun t n hp need => ?_⟩⟩
  · rw [exec_pull conf, pullLoop_queued _ queued]
  · rw [exec_pull conf, pullLoop_suspended _ empty hs]
  · rw [exec_pull conf, pullLoop_flushed _ empty hf]
  · rw [exec_pull conf] at hp
    obtain ⟨u, conf', ⟨e, rest, -, rfl⟩ | ⟨k, empty, hs, rfl⟩ | ⟨v, -, -, rfl⟩⟩ :=
      pullLoop_next (P := fun u => u.configured = true)
        (fun u v hu _ hc => (microStep_sameControl u v hc).configured.trans hu) _ s t conf hp
    · cases need
    · exact (exec_pull (s := { u with resp := some (.need k) }) conf').trans
        (pullLoop_suspended _ empty (microStep_suspend_resp _ hs))
    · cases need

/-- Settles O9: two turns more than there are bytes are enough. -/
theorem pullAlwaysAnswers : Obligations.PullAlwaysAnswers := by
  intro s conf
  rw [exec_pull conf]
  exact pullLoop_answers (.inl (by omega))

/-! ### Draining after FLUSH -/

theorem drain_congr (pulls : Nat) {s t : State} (h : exec .pull s = exec .pull t) :
    drain pulls s = drain pulls t := by
  cases pulls <;> simp [drain, h]

theorem drain_event (pulls : Nat) {s t : State} {e : Event} (h : exec .pull s = .next t)
    (event : t.resp = some (.event e)) :
    drain (pulls + 1) s = (drain pulls t).map fun r => (e :: r.1, r.2) := by
  simp [drain, h, event]

theorem drain_finished {s t : State} (h : exec .pull s = .next t) (finished : t.resp = some .finished) :
    drain 1 s = some ([], t) := by
  simp [drain, h, finished]

/-- The state in which a drain of s ends with a completed flush (R161). -/
structure FlushEnd (s t : State) : Prop where
  resp : t.resp = some .finished
  flushing : t.flushing = false
  buf : t.buf = []
  outQ : t.outQ = []
  pos : t.pos = 0
  mode : t.mode = .seeking
  configured : t.configured = true
  codecSel : t.codecSel = s.codecSel
  logEn : t.logEn = s.logEn
  crc32En : t.crc32En = s.crc32En

theorem FlushEnd.ofSameConfig {s u t : State} (h : FlushEnd u t) (sel : u.codecSel = s.codecSel)
    (log : u.logEn = s.logEn) (crc : u.crc32En = s.crc32En) : FlushEnd s t :=
  { h with
    codecSel := h.codecSel.trans sel
    logEn := h.logEn.trans log
    crc32En := h.crc32En.trans crc }

/-- Every PULL of a flush returns a queued event or, the queue empty, consumes bytes, so that bytes and
events together run out. -/
theorem drain_flush (s : State) (sound : CacheSound s) (conf : s.configured = true)
    (flushing : s.flushing = true) : ∃ k es t, drain k s = some (es, t) ∧ FlushEnd s t := by
  rcases queue : s.outQ with _ | ⟨e, rest⟩
  · cases hm : microStep s with
    | suspend n => exact absurd (flushing.symm.trans (microStep_suspend hm).1) (by decide)
    | flushed v =>
      obtain ⟨-, -, rfl⟩ := microStep_flushed s v hm
      have pull := (exec_pull conf).trans (pullLoop_flushed _ queue hm)
      exact ⟨1, [], _, drain_finished pull rfl, rfl, rfl, rfl, queue, rfl, rfl, conf, rfl, rfl, rfl⟩
    | committed v =>
      have control := microStep_sameControl s v hm
      have fewer := microStep_consumes sound hm
      obtain ⟨k, es, t, drained, done⟩ := drain_flush v (cacheSound_microStep sound hm)
        (control.configured.trans conf) (control.flushing.trans flushing)
      exact ⟨k, es, t, (drain_congr k (exec_pull_committed conf queue hm)).trans drained,
        done.ofSameConfig control.codecSel control.logEn control.crc32En⟩
  · have pull := (exec_pull conf).trans (pullLoop_queued _ queue)
    obtain ⟨k, es, t, drained, done⟩ :=
      drain_flush { s with outQ := rest, resp := some (.event e) } sound conf flushing
    exact ⟨k + 1, e :: es, t, by rw [drain_event k pull rfl, drained]; rfl,
      done.ofSameConfig rfl rfl rfl⟩
termination_by (s.buf.length, s.outQ.length)
decreasing_by
  · exact Prod.Lex.left _ _ fewer
  · rw [queue]
    exact Prod.Lex.right _ (Nat.lt_succ_self _)

/-- Settles O60: the drain ends as the completed flush leaves it. -/
theorem flushAlwaysCompletes : Obligations.FlushAlwaysCompletes := by
  intro s _ sound conf flushing
  obtain ⟨k, es, t, drained, done⟩ := drain_flush s sound conf flushing
  exact ⟨k, es, t, drained, done.resp, done.flushing, done.buf, done.outQ, done.pos, done.mode,
    done.configured, done.codecSel, done.logEn, done.crc32En⟩

end Sys2Proof.Machine

/-! The engine operations on the accumulator (R87 to R89), on the operands the rules admit. -/

namespace Sys2Proof.Machine

/-! ### APPEND -/

@[simp] theorem appendBytes_nil (s : State) : appendBytes [] s = s := by
  simp [appendBytes]

/-- APPEND within BUF_CAP. -/
theorem exec_append {d : Bytes} {s : State} (fits : s.buf.length + d.length ≤ s.par.bufCap) :
    exec (.append d) s = unitReturns .completed (appendBytes d s) := by
  change execAppend d s = _
  rw [execAppend, if_pos fits]

/-- Settles O18: within BUF_CAP APPEND is appendBytes, which leaves the state alone on no bytes. -/
theorem appendAddsAtTheTail : Obligations.AppendAddsAtTheTail := by
  intro d s fits
  refine ⟨exec_append fits, ?_⟩
  rintro rfl
  rw [exec_append fits, appendBytes_nil, unitReturns_eq]

/-! ### REQUIRE -/

theorem requireBytes_short (n off : Nat) (s : State) :
    requireBytes n off s = .short ↔ 1 ≤ n ∧ s.buf.length < off + n ∧ s.flushing = true := by
  unfold requireBytes
  split
  · next covered => exact ⟨nofun, fun ⟨asked, few, _⟩ => absurd covered (by omega)⟩
  · next uncovered =>
    split
    · next flushing => exact ⟨fun _ => ⟨by omega, by omega, flushing⟩, fun _ => rfl⟩
    · next running => exact ⟨nofun, fun ⟨_, _, flushing⟩ => absurd flushing running⟩

/-- REQUIRE's answer as the result of the unit. -/
def RequireResult.toUnit : RequireResult → UnitResult
  | .satisfied => .satisfied
  | .short => .short
  | .suspends k => .suspended k

/-- REQUIRE only answers: the state is written in no case. -/
theorem exec_require (n off : Nat) (s : State) :
    exec (.require n off) s = .next { s with result := (requireBytes n off s).toUnit } := by
  change execRequire n off s = _
  unfold execRequire
  cases requireBytes n off s with
  | satisfied => rfl
  | short => rfl
  | suspends k => rfl

/-! ### ADVANCE -/

/-- ADVANCE within the buffer. -/
theorem exec_advance {n : Nat} {s : State} (within : n ≤ s.buf.length) :
    exec (.advance n) s = unitReturns .completed (advanceBy n s) := by
  change execAdvance n s = _
  rw [execAdvance, if_pos within]

/-- Settles O19: the three answers of requireBytes, and ADVANCE within the buffer. -/
theorem requireAndAdvance : Obligations.RequireAndAdvance := by
  intro n off s
  refine ⟨fun covered => ?_, fun asked few flushing => ?_, fun asked few running => ?_,
    fun _ within => exec_advance within⟩
  · rw [exec_require, (requireBytes_satisfied n off s).mpr covered, RequireResult.toUnit]
  · rw [exec_require, (requireBytes_short n off s).mpr ⟨asked, few, flushing⟩, RequireResult.toUnit]
  · rw [exec_require, (requireBytes_suspends n off _ s).mpr ⟨asked, few, running, rfl⟩,
      RequireResult.toUnit]

end Sys2Proof.Machine

/-! The CRC engines. One bit of a register is a map that is linear over XOR (R95, R96, R99), so that the bits a
byte meets can be fed through a register alone: this is what a table entry holds (R94). A left shift with an odd
polynomial loses nothing, so that a register is zero only after its own value (R95, R97). -/

namespace Sys2Proof.Machine

-- As in the tests: proofs elaborated one after the other need no further threads, each of which counts
-- against the memory limit.
set_option Elab.async false

/-! ### One bit of a register -/

/-- The polynomial falls out of the sum of two registers that both take it. -/
theorem xor_poly_distrib {w : Nat} (p q : Bool) (x y poly : BitVec w) :
    (if (p ^^ q) = true then (x ^^^ y) ^^^ poly else x ^^^ y)
      = (if p = true then x ^^^ poly else x) ^^^ (if q = true then y ^^^ poly else y) := by
  have swap : (x ^^^ poly) ^^^ y = (x ^^^ y) ^^^ poly := by
    rw [BitVec.xor_assoc, BitVec.xor_comm poly, ← BitVec.xor_assoc]
  have cancel : (x ^^^ poly) ^^^ (y ^^^ poly) = x ^^^ y := by
    rw [← BitVec.xor_assoc, swap, BitVec.xor_assoc, BitVec.xor_self, BitVec.xor_zero]
  cases p <;> cases q
  · rfl
  · exact BitVec.xor_assoc x y poly
  · exact swap.symm
  · exact cancel.symm

theorem crcShiftLeft_xor {w : Nat} (poly a b : BitVec w) :
    crcShiftLeft poly (a ^^^ b) = crcShiftLeft poly a ^^^ crcShiftLeft poly b := by
  simp only [crcShiftLeft, BitVec.msb_xor, BitVec.shiftLeft_xor_distrib, xor_poly_distrib]

theorem crc32Bit_xor (a b : BitVec 32) : crc32Bit (a ^^^ b) = crc32Bit a ^^^ crc32Bit b := by
  simp only [crc32Bit, BitVec.getLsbD_xor, BitVec.ushiftRight_xor_distrib, xor_poly_distrib]

/-- Several bits are as linear as one. -/
theorem iterate_xor {w : Nat} {f : BitVec w → BitVec w} (linear : ∀ a b, f (a ^^^ b) = f a ^^^ f b)
    (n : Nat) (a b : BitVec w) : f^[n] (a ^^^ b) = f^[n] a ^^^ f^[n] b := by
  induction n generalizing a b with
  | zero => rfl
  | succ n ih => rw [Function.iterate_succ_apply, linear, ih]; rfl

theorem crcShiftLeft_zero {w : Nat} (poly : BitVec w) : crcShiftLeft poly 0 = 0 := by
  simp [crcShiftLeft]

theorem crcShiftLeft_of_msb {w : Nat} {poly c : BitVec w} (clear : c.msb = false) :
    crcShiftLeft poly c = c <<< 1 := by
  simp [crcShiftLeft, clear]

theorem crc32Bit_of_even {c : BitVec 32} (clear : c.getLsbD 0 = false) : crc32Bit c = c >>> 1 := by
  rw [crc32Bit, clear, if_neg Bool.false_ne_true]

/-- While no bit is shifted out at the top, the register is only shifted. -/
theorem crcShiftLeft_iterate_of_lt {w : Nat} (poly : BitVec w) {c : BitVec w} {n : Nat}
    (room : c.toNat * 2 ^ n < 2 ^ w) : (crcShiftLeft poly)^[n] c = c <<< n := by
  induction n with
  | zero => simp
  | succ n ih =>
    have double : c.toNat * 2 ^ (n + 1) = 2 * (c.toNat * 2 ^ n) := by ring
    have clear : (c <<< n).msb = false := by
      rw [BitVec.msb_eq_false_iff_two_mul_lt, BitVec.toNat_shiftLeft, Nat.shiftLeft_eq,
        Nat.mod_eq_of_lt (by omega)]
      omega
    rw [Function.iterate_succ_apply', ih (by omega), crcShiftLeft_of_msb clear, BitVec.shiftLeft_add]

/-- While no bit is shifted out at the bottom, the register is only shifted. -/
theorem crc32Bit_iterate_of_clear {c : BitVec 32} {n : Nat} (clear : ∀ i < n, c.getLsbD i = false) :
    crc32Bit^[n] c = c >>> n := by
  induction n with
  | zero => simp
  | succ n ih =>
    have even : (c >>> n).getLsbD 0 = false := by simpa using clear n n.lt_succ_self
    rw [Function.iterate_succ_apply', ih fun i below => clear i (by omega), crc32Bit_of_even even,
      BitVec.shiftRight_add]

/-- What leaves the register of an odd polynomial at the top comes back at the bottom. -/
theorem crcShiftLeft_eq_zero_iff {w : Nat} {poly : BitVec w} (odd : poly.getLsbD 0 = true)
    (c : BitVec w) : crcShiftLeft poly c = 0 ↔ c = 0 := by
  refine ⟨fun zero => ?_, fun zero => zero ▸ crcShiftLeft_zero poly⟩
  cases top : c.msb with
  | true =>
    have bottom := congrArg (BitVec.getLsbD · 0) zero
    simp [crcShiftLeft, top, odd] at bottom
  | false =>
    rw [crcShiftLeft_of_msb top] at zero
    have double := congrArg BitVec.toNat zero
    rw [BitVec.msb_eq_false_iff_two_mul_lt] at top
    rw [BitVec.toNat_shiftLeft, Nat.shiftLeft_eq, Nat.mod_eq_of_lt (by omega)] at double
    exact BitVec.eq_of_toNat_eq (by simpa using double)

theorem crcShiftLeft_iterate_eq_iff {w : Nat} {poly : BitVec w} (odd : poly.getLsbD 0 = true) (n : Nat)
    (a b : BitVec w) : (crcShiftLeft poly)^[n] a = (crcShiftLeft poly)^[n] b ↔ a = b := by
  have injective : Function.Injective (crcShiftLeft poly) := fun x y same => by
    rw [← BitVec.xor_eq_zero_iff, ← crcShiftLeft_xor] at same
    exact BitVec.xor_eq_zero_iff.mp ((crcShiftLeft_eq_zero_iff odd _).mp same)
  exact (injective.iterate n).eq_iff

theorem crcShiftLeft_iterate_eq_zero_iff {w : Nat} {poly : BitVec w} (odd : poly.getLsbD 0 = true)
    (n : Nat) (c : BitVec w) : (crcShiftLeft poly)^[n] c = 0 ↔ c = 0 := by
  have zero : (crcShiftLeft poly)^[n] 0 = 0 := Function.iterate_fixed (crcShiftLeft_zero poly) n
  rw [← crcShiftLeft_iterate_eq_iff odd n c 0, zero]

/-! ### Engines by the loops of the spec -/

/-- A loop of n turns is the n-th iterate. -/
theorem repeat_eq_iterate {α : Type} (f : α → α) (n : Nat) (a : α) : Nat.repeat f n a = f^[n] a := by
  induction n with
  | zero => rfl
  | succ n ih => rw [Function.iterate_succ_apply', ← ih]; rfl

/-- The bit tested, counted from the bottom (R95, R96). -/
theorem crcShiftLeft_eq_getLsbD {w : Nat} (poly : BitVec w) :
    crcShiftLeft poly = fun c => if c.getLsbD (w - 1) then (c <<< 1) ^^^ poly else c <<< 1 := by
  funext c
  rw [crcShiftLeft, BitVec.msb_eq_getLsbD_last]

/-- R95's loop. -/
theorem crc8_eq_loop (s : Bytes) :
    crc8 s = s.foldl (fun (c : BitVec 8) (x : Byte) =>
      Nat.repeat (fun c => if c.getLsbD 7 then (c <<< 1) ^^^ 7#8 else c <<< 1) 8 (c ^^^ x)) 0 := by
  simp only [repeat_eq_iterate, ← crcShiftLeft_eq_getLsbD 7#8]
  rfl

/-- R96's loop. -/
theorem crc16_eq_loop (s : Bytes) :
    crc16 s = s.foldl (fun (c : BitVec 16) (x : Byte) =>
      Nat.repeat (fun c => if c.getLsbD 15 then (c <<< 1) ^^^ 0x8005#16 else c <<< 1) 8
        (c ^^^ (x.setWidth 16 <<< 8))) 0 := by
  simp only [repeat_eq_iterate, ← crcShiftLeft_eq_getLsbD 0x8005#16]
  rfl

/-- R99's loop. -/
theorem crc32IsoHdlc_eq_loop (s : Bytes) :
    crc32IsoHdlc s = s.foldl (fun (c : BitVec 32) (x : Byte) =>
      Nat.repeat (fun c => if c.getLsbD 0 then (c >>> 1) ^^^ 0xEDB88320#32 else c >>> 1) 8
        (c ^^^ x.setWidth 32)) 0xFFFFFFFF ^^^ 0xFFFFFFFF := by
  simp only [repeat_eq_iterate]
  rfl

/-! ### A register split at its byte -/

/-- A 16-bit register is its high byte and its low byte. -/
theorem register16_split (c : BitVec 16) :
    c = ((c.extractLsb' 8 8).setWidth 16 <<< 8) ^^^ (c.setWidth 8).setWidth 16 := by
  ext i inside
  grind

/-- A 32-bit register is its upper bytes and its low byte. -/
theorem register32_split (c : BitVec 32) : c = (c >>> 8 <<< 8) ^^^ (c.setWidth 8).setWidth 32 := by
  ext i inside
  grind

/-- Two bytes in a register are their big-endian number. -/
theorem toNat_two_bytes (x y : Byte) :
    ((x.setWidth 16 <<< 8) ^^^ y.setWidth 16).toNat = x.toNat * 2 ^ 8 + y.toNat := by
  have append : (x.setWidth 16 <<< 8) ^^^ y.setWidth 16 = x ++ y := by
    ext i inside
    grind
  rw [append, BitVec.toNat_append, ← Nat.shiftLeft_add_eq_or_of_lt y.isLt, Nat.shiftLeft_eq]

/-- A byte in the low half of a 16-bit register comes to its high half. -/
theorem crc16_shift_byte (y : Byte) :
    (crcShiftLeft (0x8005 : BitVec 16))^[8] (y.setWidth 16) = y.setWidth 16 <<< 8 := by
  refine crcShiftLeft_iterate_of_lt _ ?_
  have small := y.isLt
  rw [BitVec.toNat_setWidth_of_le (by decide)]
  omega

/-! ### Registers that come to zero -/

/-- CRC-8 is zero after a byte exactly when the register held that byte (R95). -/
theorem crc8Byte_eq_zero_iff (c : BitVec 8) (b : Byte) : crc8Byte c b = 0 ↔ c = b :=
  (crcShiftLeft_iterate_eq_zero_iff (by decide) 8 _).trans BitVec.xor_eq_zero_iff

/-- Two bytes bring CRC-16 to zero exactly when they are the register, high byte first (R97). -/
theorem crc16Byte_crc16Byte_eq_zero_iff (c : BitVec 16) (x y : Byte) :
    crc16Byte (crc16Byte c x) y = 0 ↔ c = (x.setWidth 16 <<< 8) ^^^ y.setWidth 16 := by
  have odd : (0x8005 : BitVec 16).getLsbD 0 = true := by decide
  calc crc16Byte (crc16Byte c x) y = 0
      ↔ crc16Byte c x = y.setWidth 16 <<< 8 :=
        (crcShiftLeft_iterate_eq_zero_iff odd 8 _).trans BitVec.xor_eq_zero_iff
    _ ↔ c ^^^ (x.setWidth 16 <<< 8) = y.setWidth 16 := by
        rw [crc16Byte, ← crc16_shift_byte y, crcShiftLeft_iterate_eq_iff odd]
    _ ↔ c = (x.setWidth 16 <<< 8) ^^^ y.setWidth 16 := by
        rw [← BitVec.xor_eq_zero_iff, BitVec.xor_assoc, BitVec.xor_eq_zero_iff]

/-! ### Table entries -/

/-- The engine's entry of the register and the byte is the engine's byte (R94). -/
theorem crc8_single (c : BitVec 8) (b : Byte) : crc8 [c ^^^ b] = crc8Byte c b := by
  simp [crc8, crc8Byte]

theorem crc16_single (i : Byte) : crc16 [i] = (crcShiftLeft 0x8005)^[8] (i.setWidth 16 <<< 8) := by
  simp [crc16, crc16Byte]

/-- The high byte goes through the table, the low byte takes its place (R94). -/
theorem crc16Byte_eq_table (c : BitVec 16) (b : Byte) :
    crc16Byte c b = (c <<< 8) ^^^ crc16 [c.extractLsb' 8 8 ^^^ b] := by
  have low : (c.setWidth 8).setWidth 16 <<< 8 = c <<< 8 := by
    ext i inside
    grind
  have fed : c ^^^ (b.setWidth 16 <<< 8)
      = (c.setWidth 8).setWidth 16 ^^^ ((c.extractLsb' 8 8 ^^^ b).setWidth 16 <<< 8) := by
    rw [BitVec.setWidth_xor, BitVec.shiftLeft_xor_distrib, ← BitVec.xor_assoc,
      BitVec.xor_comm (BitVec.setWidth 16 _), ← register16_split]
  rw [crc16Byte, fed, iterate_xor (crcShiftLeft_xor _), crc16_shift_byte, low, crc16_single]

/-- The initial and the final inversion of a one-byte run meet in the upper bytes, which the entry takes out. -/
theorem tableEntry32_eq (i : Byte) : tableEntry32 i = crc32Bit^[8] (i.setWidth 32) := by
  have fed : (0xFFFFFFFF : BitVec 32) ^^^ (i ^^^ 0xFF).setWidth 32 = 0xFFFFFF00 ^^^ i.setWidth 32 := by
    rw [BitVec.setWidth_xor, BitVec.xor_comm (i.setWidth 32), ← BitVec.xor_assoc]
    rfl
  have upper : crc32Bit^[8] (0xFFFFFF00 : BitVec 32) = 0x00FFFFFF :=
    crc32Bit_iterate_of_clear (by decide)
  calc tableEntry32 i
      = (crc32Bit^[8] (0xFFFFFFFF ^^^ (i ^^^ 0xFF).setWidth 32) ^^^ 0xFFFFFFFF) ^^^ 0xFF000000 := rfl
    _ = crc32Bit^[8] (i.setWidth 32) ^^^ (0x00FFFFFF ^^^ (0xFFFFFFFF ^^^ 0xFF000000)) := by
        rw [fed, iterate_xor crc32Bit_xor, upper, BitVec.xor_assoc, BitVec.xor_comm 0x00FFFFFF,
          BitVec.xor_assoc]
    _ = crc32Bit^[8] (i.setWidth 32) := BitVec.xor_zero

/-- The low byte goes through the table, the upper bytes move down (R94). -/
theorem crc32Byte_eq_table (c : BitVec 32) (b : Byte) :
    crc32Byte c b = (c >>> 8) ^^^ tableEntry32 (c.setWidth 8 ^^^ b) := by
  have upper : crc32Bit^[8] (c >>> 8 <<< 8) = c >>> 8 := by
    rw [crc32Bit_iterate_of_clear fun i below => by simp [below]]
    grind
  have fed : c ^^^ b.setWidth 32 = (c >>> 8 <<< 8) ^^^ (c.setWidth 8 ^^^ b).setWidth 32 := by
    rw [BitVec.setWidth_xor, ← BitVec.xor_assoc, ← register32_split]
  rw [crc32Byte, fed, iterate_xor crc32Bit_xor, upper, tableEntry32_eq]

theorem tableCrc8_eq (s : Bytes) : tableCrc8 s = crc8 s := by
  simp only [tableCrc8, crc8_single]
  rfl

theorem tableCrc16_eq (s : Bytes) : tableCrc16 s = crc16 s := by
  simp only [tableCrc16, ← crc16Byte_eq_table]
  rfl

theorem tableCrc32_eq (s : Bytes) : tableCrc32 s = crc32IsoHdlc s := by
  simp only [tableCrc32, ← crc32Byte_eq_table]
  rfl

/-! ### The footer test -/

theorem footerMatches_iff (f : Bytes) :
    footerMatches f = true ↔ 2 ≤ f.length ∧ (crc16 (f.take (f.length - 2))).toNat = be16 f (f.length - 2) := by
  simp [footerMatches]

/-- A sequence of two bytes and more ends in the two bytes be16 reads. -/
theorem take_append_last_two {f : Bytes} (long : 2 ≤ f.length) :
    f = f.take (f.length - 2) ++ [byteAt f (f.length - 2), byteAt f (f.length - 2 + 1)] := by
  have first : f.length - 2 < f.length := by omega
  have second : f.length - 2 + 1 < f.length := by omega
  have last : f.drop (f.length - 2) = [byteAt f (f.length - 2), byteAt f (f.length - 2 + 1)] := by
    rw [List.drop_eq_getElem_cons first, List.drop_eq_getElem_cons second, List.drop_of_length_le (by omega),
      byteAt, byteAt, List.getD_eq_getElem _ _ first, List.getD_eq_getElem _ _ second]
  rw [← last, List.take_append_drop]

/-- CRC-16 over a sequence and its own big-endian CRC-16 comes to zero, and over nothing else (R97). -/
theorem crc16_eq_zero_iff {f : Bytes} (long : 2 ≤ f.length) :
    crc16 f = 0 ↔ (crc16 (f.take (f.length - 2))).toNat = be16 f (f.length - 2) := by
  have run : crc16 f = crc16Byte (crc16Byte (crc16 (f.take (f.length - 2))) (byteAt f (f.length - 2)))
      (byteAt f (f.length - 2 + 1)) := by
    conv_lhs => rw [take_append_last_two long, crc16, List.foldl_append]
    rfl
  rw [run, crc16Byte_crc16Byte_eq_zero_iff, ← BitVec.toNat_inj, toNat_two_bytes, be16]

theorem footerMatches_iff_crc16 {f : Bytes} (long : 2 ≤ f.length) : footerMatches f = true ↔ crc16 f = 0 := by
  rw [footerMatches_iff, crc16_eq_zero_iff long, and_iff_right long]

/-! ### The engines' rows -/

theorem exec_crc8 (b : Bytes) (s : State) : exec (.crc8 b) s = .next { s with result := .crc8 (crc8 b) } := rfl

theorem exec_crc16 (b : Bytes) (s : State) :
    exec (.crc16 b) s = .next { s with result := .crc16 (crc16 b) } := rfl

theorem exec_crc32 (b : Bytes) (s : State) :
    exec (.crc32 b) s = .next { s with result := .crc32 (crc32 s.par.crc32Variant b) } := rfl

/-- Settles O15: the loop is the engine's, and the register meets its own value at the end. -/
theorem crc8EngineAndSelfCheck : Obligations.Crc8EngineAndSelfCheck := by
  refine ⟨fun b s => ?_, rfl, fun b => ?_, by decide +kernel, by decide +kernel, by decide +kernel⟩
  · rw [exec_crc8, crc8_eq_loop]
  · rw [crc8, List.foldl_append]
    exact (crc8Byte_eq_zero_iff _ _).mpr rfl

/-- Settles O16: the last two bytes bring the register of the rest to zero exactly when they are its value. -/
theorem footerTestIsZeroCrc16 : Obligations.FooterTestIsZeroCrc16 :=
  ⟨footerMatches_iff, fun _ long => footerMatches_iff_crc16 long⟩

/-- Settles O17: the loops and the tables are the engines'. -/
theorem crcEnginesEqualTheirTables : Obligations.CrcEnginesEqualTheirTables := by
  refine ⟨fun b s => ⟨?_, fun iso => ?_, fun k other => ?_, ?_, ?_, fun iso => ?_⟩, rfl, ?_⟩
  · rw [exec_crc16, crc16_eq_loop]
  · rw [exec_crc32, iso, crc32, crc32IsoHdlc_eq_loop]
  · rw [exec_crc32, other, crc32]
  · rw [exec_crc8, tableCrc8_eq]
  · rw [exec_crc16, tableCrc16_eq]
  · rw [exec_crc32, iso, crc32, tableCrc32_eq]
  · decide +kernel

end Sys2Proof.Machine

/-! Frame assembly as the whole next state (R172 to R181). -/

namespace Sys2Proof.Machine

set_option Elab.async false

/-- Settles O43: the frame is queued behind the callbacks, on the state the assembly leaves. -/
theorem emittedFrameAndItsCallbacks : Obligations.EmittedFrameAndItsCallbacks := by
  intro h d c t s
  refine ⟨by rw [emitFrame_eq]; rfl, rfl, fun off => ?_⟩
  have quiet : callbacksOf h s = [] := by simp [callbacksOf, off]
  exact ⟨quiet, by simp [afterFrame, quiet, off]⟩

end Sys2Proof.Machine

/-! Native FLAC (R149 to R151): what the header decoder asks for at most, where the footer scan ends, and the frame
that is taken there. -/

namespace Sys2Proof.Machine

set_option Elab.async false

/-! ### The bounds of a header (R123, R124, R127) -/

theorem codedLength_bounds {x : Byte} {n : Nat} (h : codedLength x = some n) : 1 ≤ n ∧ n ≤ 7 := by
  unfold codedLength at h
  simp only at h
  split_ifs at h <;> cases h <;> decide

theorem FlacFixed.Coded.extra_le {f : FlacFixed} {si : Option StreamInfo} (h : f.Coded si) :
    f.blockSize.extra ≤ 2 ∧ f.sampleRate.extra ≤ 2 := by
  obtain ⟨size, rate⟩ := h
  constructor
  · cases e : f.blockSize with
    | value v => exact Nat.zero_le 2
    | extended k =>
      rw [e] at size
      rcases flacBlockSize_extended size with ⟨-, rfl⟩ | ⟨-, rfl⟩ <;> decide
  · cases e : f.sampleRate with
    | value v => exact Nat.zero_le 2
    | extended k =>
      rw [e] at rate
      rcases flacSampleRate_extended rate with ⟨-, rfl⟩ | ⟨-, rfl⟩ | ⟨-, rfl⟩ <;> decide

theorem FlacFixed.extra_le_ofHeader (h : FlacHeader) :
    (FlacFixed.ofHeader h).blockSize.extra ≤ 2 ∧ (FlacFixed.ofHeader h).sampleRate.extra ≤ 2 := by
  unfold FlacFixed.ofHeader
  constructor <;> simp only <;> split <;> simp [FlacCoded.extra]

/-- The fixed fields, decoded or from the cache, give a header of 6 to 16 bytes. -/
theorem flacHeaderLength_bounds {hit : Option (Header × Identity)} {b : Bytes} {si : Option StreamInfo}
    {f : FlacFixed} {x : Byte} {n : Nat}
    (fixed : ((cachedFlac hit).orElse fun _ => flacFixedOf b si) = some f) (coded : codedLength x = some n) :
    6 ≤ flacHeaderLength f n ∧ flacHeaderLength f n ≤ 16 := by
  have extra : f.blockSize.extra ≤ 2 ∧ f.sampleRate.extra ≤ 2 := by
    unfold cachedFlac at fixed
    split at fixed
    · cases fixed
      exact FlacFixed.extra_le_ofHeader _
    · exact (flacFixedOf_coded fixed).extra_le
  have number := codedLength_bounds coded
  unfold flacHeaderLength
  omega

/-- No Need of the decoder asks for more than 16 bytes, and no header has fewer than 6. -/
theorem decodeFlac_bounds (b : Bytes) (si : Option StreamInfo) (s : State) :
    (∀ k, (decodeFlac b si s).1 = .need k → k ≤ 16)
      ∧ ∀ h, (decodeFlac b si s).1 = .parsed h → 6 ≤ h.headerLength := by
  unfold decodeFlac
  split
  · simp
  simp only
  split
  · simp
  next f fixed =>
  split
  · simp
  split
  · simp
  next n coded =>
  have bounds := flacHeaderLength_bounds fixed coded
  split
  · refine ⟨fun k need => ?_, fun h parsed => by cases parsed⟩
    cases need
    exact bounds.2
  split
  · next record =>
    refine ⟨fun k need => (by cases need), fun h parsed => ?_⟩
    cases parsed
    rw [(flacRecord_eq_some record).1]
    exact bounds.1
  · simp

/-- The decoder does not read lastKey (R134). -/
theorem decodeFlac_relooked {s u : State} (look : Relooked s u) (b : Bytes) (si : Option StreamInfo) :
    (decodeFlac b si u).1 = (decodeFlac b si s).1 := by
  obtain ⟨k, rfl⟩ := look
  have hit : (cacheLookup (flacKey b) { s with lastKey := k }).1 = (cacheLookup (flacKey b) s).1 := by
    simp only [cacheLookup]
    split
    · split <;> rfl
    · rfl
  unfold decodeFlac
  simp only [hit]
  split
  · rfl
  split
  · rfl
  split
  · rfl
  split
  · rfl
  split
  · rfl
  split <;> rfl

theorem orSuspend_parsed {α : Type} {off : Nat} {r : DecodeResult α × State} {h : α}
    (parsed : r.1 = .parsed h) : orSuspend off r = .value (.parsed h) r.2 := by
  obtain ⟨d, t⟩ := r
  cases parsed
  rfl

/-- Behind an offset with 16 bytes at it the decoder has its answer. -/
theorem orSuspend_decodeFlac_answers {off : Nat} {s : State} (room : off + 16 ≤ s.buf.length) :
    ∃ d, orSuspend off (decodeFlac (s.buf.drop off) none s)
        = .value d (decodeFlac (s.buf.drop off) none s).2
      ∧ d = (decodeFlac (s.buf.drop off) none s).1 ∧ ∀ k, d ≠ .need k := by
  have noNeed : ∀ k, (decodeFlac (s.buf.drop off) none s).1 ≠ .need k := by
    intro k need
    have short := decodeFlac_need need
    have most := (decodeFlac_bounds _ _ _).1 k need
    rw [List.length_drop] at short
    omega
  rcases orSuspend_cases off (decodeFlac (s.buf.drop off) none s) with ⟨e, -⟩ | ⟨k, need, -, -⟩
  · exact ⟨_, e, rfl, noNeed⟩
  · exact absurd need (noNeed k)

/-! ### The footer scan (R150) -/

/-- A frame end passes the footer test and is among the candidates. -/
theorem flacScanFrom_found_footer {tries p q : Nat} {rest : Bytes} {s t : State} {c : Bool}
    (h : flacScanFrom tries p rest s = .value (.found q c) t) : footerOk q s = true ∧ q < p + tries := by
  induction tries generalizing p rest s with
  | zero => cases h
  | succ n ih =>
    have later : ∀ {rest' s'}, s'.buf = s.buf → flacScanFrom n (p + 1) rest' s' = .value (.found q c) t →
        footerOk q s = true ∧ q < p + (n + 1) := by
      intro rest' s' buf h'
      obtain ⟨footer, below⟩ := ih h'
      rw [footerOk, buf] at footer
      exact ⟨footer, by omega⟩
    unfold flacScanFrom at h
    split at h
    · cases h
    split at h
    · split at h <;> cases h
      next footer => exact ⟨footer, by omega⟩
    split at h
    · split at h
      · exact later rfl h
      · cases h
    split at h
    · exact later rfl h
    split at h
    · exact later rfl h
    next footer =>
    have passed : footerOk p s = true := by simpa using footer
    split at h
    · cases h
    · cases h; exact ⟨passed, by omega⟩
    · cases h; exact ⟨passed, by omega⟩
    · next e => exact later (relooked_of_decodeFlac e).sameInput.buf h

theorem flacSyncAt_drop (p : Nat) (b : Bytes) :
    flacSyncAt (b.drop p) = true ↔ byteAt b p = 0xFF ∧ (byteAt b (p + 1) = 0xF8 ∨ byteAt b (p + 1) = 0xF9) := by
  simp [flacSyncAt, byteAt]

/-- A candidate end with its footer, a next header and 16 bytes behind it. -/
structure ConfirmedEnd (q : Nat) (s : State) : Prop where
  room : q + 16 ≤ s.buf.length
  footer : footerOk q s = true
  sync : flacSyncAt (s.buf.drop q) = true
  confirms : ∃ h, (decodeFlac (s.buf.drop q) none s).1 = .parsed h

theorem ConfirmedEnd.relooked {q : Nat} {s u : State} (h : ConfirmedEnd q s) (look : Relooked s u) :
    ConfirmedEnd q u := by
  have buf := look.sameInput.buf
  obtain ⟨header, parsed⟩ := h.confirms
  refine ⟨?_, ?_, ?_, header, ?_⟩
  · rw [buf]; exact h.room
  · rw [footerOk, buf]; exact h.footer
  · rw [buf]; exact h.sync
  · rw [buf, decodeFlac_relooked look]; exact parsed

/-- The scan stops at such an end, or found a confirmed one before it. -/
theorem flacScanFrom_of_confirmedEnd {tries p q : Nat} {s : State} (stop : ConfirmedEnd q s) (after : p ≤ q)
    (among : q < p + tries) :
    ∃ r t, flacScanFrom tries p (s.buf.drop p) s = .value (.found r true) t ∧ r ≤ q := by
  induction tries generalizing p s with
  | zero => omega
  | succ n ih =>
    have room := stop.room
    have later : ∀ {t}, Relooked s t → p ≠ q → ∃ r v,
        flacScanFrom n (p + 1) (s.buf.drop p).tail t = .value (.found r true) v ∧ r ≤ q := by
      intro t look before
      rw [List.tail_drop, ← look.sameInput.buf]
      exact ih (stop.relooked look) (by omega) (by omega)
    unfold flacScanFrom
    rw [if_neg (by omega), if_neg (by omega), if_neg (by omega)]
    split
    · next noSync => exact later (.refl s) fun e => by rw [e, stop.sync] at noSync; cases noSync
    split
    · next noFooter => exact later (.refl s) fun e => by rw [e, stop.footer] at noFooter; cases noFooter
    obtain ⟨d, answer, rfl, noNeed⟩ := orSuspend_decodeFlac_answers (off := p) (s := s) (by omega)
    rw [answer]
    cases e : (decodeFlac (s.buf.drop p) none s).1 with
    | parsed h => exact ⟨p, _, rfl, after⟩
    | need k => exact absurd e (noNeed k)
    | invalid =>
      refine later (decodeFlac_state _ _ s) ?_
      rintro rfl
      obtain ⟨header, parsed⟩ := stop.confirms
      rw [e] at parsed
      cases parsed

/-- At flush, with a footer at the end of the buffer and at no candidate before it, the scan stops at the end. -/
theorem flacScanFrom_flush_end {tries p : Nat} {s : State} (rest : Bytes) (flushing : s.flushing = true)
    (inside : p ≤ s.buf.length) (among : s.buf.length < p + tries)
    (footer : footerOk s.buf.length s = true)
    (noneBefore : ∀ q, p ≤ q → q < s.buf.length → footerOk q s = false) :
    flacScanFrom tries p rest s = .value (.found s.buf.length false) s := by
  induction tries generalizing p rest with
  | zero => omega
  | succ n ih =>
    unfold flacScanFrom
    rw [if_neg (by omega)]
    split
    · next atEnd => rw [← atEnd.2, footer, if_pos rfl]
    · next notEnd =>
      have before : p < s.buf.length := lt_of_le_of_ne inside fun e => notEnd ⟨flushing, e.symm⟩
      have later := ih rest.tail before (by omega) fun q le => noneBefore q (by omega)
      rw [noneBefore p le_rfl before, later]
      simp

/-! ### The frame taken (R149, R151) -/

/-- Of what a frame queues on an empty queue, the one frame is the assembled record. -/
theorem frame_mem_emitFrame {h : Header} {d : Bytes} {c t : Bool} {s : State} {f : FrameRecord}
    (empty : s.outQ = []) (mem : .frame f ∈ (emitFrame h d c t s).outQ) :
    f = assembledFrame h d (some s.pos) c t s := by
  obtain ⟨q, e, notes⟩ := afterFrame_queuesNotes h d s
  rw [emitFrame_eq, emit_outQ, e, empty, List.nil_append, List.mem_append, List.mem_singleton] at mem
  rcases mem with note | frame
  · cases notes.2 _ note
  · exact Event.frame.inj frame

theorem mem_emitFrame (h : Header) (d : Bytes) (c t : Bool) (s : State) :
    .frame (assembledFrame h d (some s.pos) c t s) ∈ (emitFrame h d c t s).outQ := by
  rw [emitFrame_eq, emit_outQ]
  exact List.mem_append_right _ (List.mem_singleton_self _)

/-- A FLAC frame is taken at the cursor, confirmed by the mode it is taken in: SYNCED if a next header was
found, and the mode held if none was. -/
theorem acceptFlac_eq (h : FlacHeader) (p : Nat) (c : Bool) (s : State) :
    ∃ u, u.outQ = s.outQ ∧ (c = true → u.mode = .synced) ∧ (c = false → u = s)
      ∧ acceptFlac h p c s
        = advanceBy p (emitFrame (.flac h) (s.buf.take p) (decide (u.mode = .synced)) false u) := by
  by_cases gain : s.mode = .seeking ∧ c = true
  · refine ⟨gainSync s, rfl, fun _ => rfl, fun no => ?_, ?_⟩
    · rw [gain.2] at no
      cases no
    · rw [acceptFlac, if_pos gain]
      rfl
  · refine ⟨s, rfl, fun found => ?_, fun _ => rfl, by rw [acceptFlac, if_neg gain]⟩
    cases mode : s.mode with
    | seeking => exact absurd ⟨mode, found⟩ gain
    | synced => rfl

/-- The end of a frame that a header at the cursor begins: its footer passes, and its length is in R150's range. -/
structure FlacFrameEnd (h : FlacHeader) (p : Nat) (s : State) : Prop where
  header : (decodeFlac s.buf none s).1 = .parsed h
  footer : footerMatches (s.buf.take p) = true
  past : h.headerLength + Config.minFlacFrame ≤ p
  atMost : p ≤ Config.maxFlacFrame
  inside : p ≤ s.buf.length

/-- What a committed native FLAC step did: no frame, or one that ends where its footer passes (R149, R150). -/
theorem flacStep_cases {s t : State} (hc : flacStep s = .committed t) :
    (∃ u, Relooked s u ∧ (t = advanceBy 1 u ∨ ∃ w, t = resync w u))
      ∨ ∃ h p c u, Relooked s u ∧ FlacFrameEnd h p s ∧ t = acceptFlac h p c u := by
  unfold flacStep at hc
  split at hc
  · cases hc
  · next h u e =>
    have look := relooked_of_decodeFlac e
    split at hc
    · cases hc
    · next v e' => cases hc; exact .inl ⟨v, look.trans (flacScanFrom_found_le e').1, .inr ⟨_, rfl⟩⟩
    · next p c v e' =>
      cases hc
      obtain ⟨look', inside⟩ := flacScanFrom_found_le e'
      obtain ⟨footer, among⟩ := flacScanFrom_found_footer e'
      have past := le_of_flacScanFrom_found e'
      have buf := look.sameInput.buf
      refine .inr ⟨h, p, c, v, look.trans look', ?_, rfl⟩
      exact ⟨(orSuspend_decodeFlac _ _ _ _ _ _ e).1.symm, by rw [← buf]; exact footer, past, by omega,
        by rw [← buf]; exact inside p c rfl⟩
  · next e =>
    have look := relooked_of_decodeFlac e
    split at hc <;> cases hc
    · exact .inl ⟨_, look, .inl rfl⟩
    · exact .inl ⟨_, look, .inr ⟨_, rfl⟩⟩

/-- A frame that a committed native FLAC step queues ends where its footer passes. -/
theorem flacStep_frame {s t : State} {f : FrameRecord} (hc : flacStep s = .committed t)
    (empty : s.outQ = []) (mem : .frame f ∈ t.outQ) :
    ∃ h p, FlacFrameEnd h p s ∧ f.data = s.buf.take p ∧ f.truncated = false := by
  rcases flacStep_cases hc with ⟨u, look, rfl | ⟨w, rfl⟩⟩ | ⟨h, p, c, u, look, stop, rfl⟩
  · rw [advanceBy_outQ, look.atCursor.outQ_eq, empty] at mem
    cases mem
  · obtain ⟨q, e, notes⟩ := warn_notes w 0 .absent u
    change Event.frame f ∈ (warn w 0 .absent u).outQ at mem
    rw [e, look.atCursor.outQ_eq, empty, List.nil_append] at mem
    cases notes.2 _ mem
  · obtain ⟨v, outQ, -, -, e⟩ := acceptFlac_eq h p c u
    rw [e, advanceBy_outQ] at mem
    rw [frame_mem_emitFrame (outQ.trans (look.atCursor.outQ_eq.trans empty)) mem]
    exact ⟨h, p, stop, congrArg (List.take p) look.sameInput.buf, rfl⟩

/-- A header at the cursor and a frame end the scan finds: the frame is taken. -/
theorem flacStep_found {s v : State} {h : FlacHeader} {p : Nat} {c : Bool}
    (parsed : (decodeFlac s.buf none s).1 = .parsed h)
    (scan : flacScan h (decodeFlac s.buf none s).2 = .value (.found p c) v) :
    flacStep s = .committed (acceptFlac h p c v) := by
  simp only [flacStep, orSuspend_parsed parsed, scan]

theorem microStep_flac {s : State} (native : s.codecSel = 2) (nonempty : s.buf ≠ []) :
    microStep s = flacStep s := by
  rw [microStep, if_neg fun flushed => nonempty flushed.2, if_pos native]

/-- FLAC_HDR in native FLAC mode refers to no STREAMINFO (R121). -/
theorem exec_flacHdr_native {s : State} (native : s.codecSel = 2) (view : Bytes) :
    exec (.flacHdr view) s
      = .next { (decodeFlac view none s).2 with result := .flac (decodeFlac view none s).1 } := by
  have reference : flacReference s = none := if_neg (by rw [native]; decide)
  change execFlacHdr view s = _
  rw [execFlacHdr, reference]
  rfl

/-- With a frame end that a next header confirms, the step takes a confirmed frame that ends there or before. -/
theorem microStep_confirms {s : State} {h : FlacHeader} {q : Nat} (native : s.codecSel = 2)
    (parsed : (decodeFlac s.buf none s).1 = .parsed h) (past : h.headerLength + Config.minFlacFrame ≤ q)
    (atMost : q ≤ Config.maxFlacFrame) (stop : ConfirmedEnd q s) :
    ∃ t f, microStep s = .committed t ∧ t.mode = .synced ∧ .frame f ∈ t.outQ ∧ f.header = .flac h ∧
      f.confirmed = true ∧ f.data.length ≤ q ∧ f.data = s.buf.take f.data.length ∧
      t.buf = s.buf.drop f.data.length := by
  have look : Relooked s (decodeFlac s.buf none s).2 := decodeFlac_state _ _ s
  obtain ⟨r, v, scan, before⟩ := flacScanFrom_of_confirmedEnd
    (tries := Config.maxFlacFrame + 1 - (h.headerLength + Config.minFlacFrame)) (stop.relooked look) past
    (by omega)
  have look' := look.trans (flacScanFrom_found_le scan).1
  have room := stop.room
  have length : (s.buf.take r).length = r := by rw [List.length_take]; omega
  have nonempty : s.buf ≠ [] := by rintro empty; rw [empty] at room; cases room
  obtain ⟨u, -, synced, -, e⟩ := acceptFlac_eq h r true v
  rw [look'.sameInput.buf, synced rfl, decide_eq_true rfl] at e
  refine ⟨acceptFlac h r true v, assembledFrame (.flac h) (s.buf.take r) (some u.pos) true false u,
    (microStep_flac native nonempty).trans (flacStep_found parsed scan), ?_, ?_, rfl, rfl, ?_, ?_, ?_⟩
  · rw [e, advanceBy_mode, (SameInput.emitFrame _ _ _ _ u).mode, synced rfl]
  · rw [e, advanceBy_outQ]
    exact mem_emitFrame _ _ _ _ u
  · exact length.le.trans before
  · exact congrArg (List.take · s.buf) length.symm
  · rw [acceptFlac_buf, look'.sameInput.buf]
    exact congrArg (List.drop · s.buf) length.symm

/-- At flush, with the one footer at the end of the buffer, the step takes the whole buffer in the mode held. -/
theorem microStep_flush_end {s : State} {h : FlacHeader} (native : s.codecSel = 2)
    (parsed : (decodeFlac s.buf none s).1 = .parsed h) (flushing : s.flushing = true)
    (past : h.headerLength + Config.minFlacFrame ≤ s.buf.length)
    (atMost : s.buf.length ≤ Config.maxFlacFrame) (footer : footerMatches s.buf = true)
    (noneBefore : ∀ p, h.headerLength + Config.minFlacFrame ≤ p → p < s.buf.length →
      footerMatches (s.buf.take p) = false) :
    microStep s = .committed (advanceBy s.buf.length
      (emitFrame (.flac h) s.buf (decide (s.mode = .synced)) false (decodeFlac s.buf none s).2)) := by
  have same : SameInput s (decodeFlac s.buf none s).2 := SameInput.decodeFlac _ _ s
  have nonempty : s.buf ≠ [] := fun empty => by
    rw [empty] at past
    unfold Config.minFlacFrame at past
    cases past
  have scan : flacScan h (decodeFlac s.buf none s).2
      = .value (.found (decodeFlac s.buf none s).2.buf.length false) (decodeFlac s.buf none s).2 := by
    refine flacScanFrom_flush_end _ (same.flushing.trans flushing) ?_ ?_ ?_ fun q first before => ?_
    · rw [same.buf]; exact past
    · rw [same.buf]; omega
    · rw [footerOk, List.take_length, same.buf]; exact footer
    · rw [same.buf] at before
      rw [footerOk, same.buf]
      exact noneBefore q first before
  rw [same.buf] at scan
  obtain ⟨u, -, -, held, e⟩ := acceptFlac_eq h s.buf.length false (decodeFlac s.buf none s).2
  rw [microStep_flac native nonempty, flacStep_found parsed scan, e, held rfl, same.buf, same.mode,
    List.take_length]

/-- Settles O52: the scan takes frames only at a passing footer, stops at the first confirmed one, and at flush at
the end of the buffer. -/
theorem flacFramePassesItsFooter : Obligations.FlacFramePassesItsFooter := by
  intro s native
  refine ⟨fun off => exec_flacHdr_native native _, fun t f empty hc mem => ?_, fun h parsed => ⟨?_, ?_⟩⟩
  · rw [microStep_flac native (microStep_committed_nonempty hc)] at hc
    obtain ⟨h, p, ⟨header, footer, past, atMost, inside⟩, data, whole⟩ := flacStep_frame hc empty mem
    have least := (decodeFlac_bounds _ _ _).2 h header
    have length : f.data.length = p := by rw [data, List.length_take]; omega
    unfold Config.minFlacFrame at past
    rw [← data] at footer
    exact ⟨(footerMatches_iff_crc16 (by omega)).mp footer, footer, by omega, length.le.trans atMost, whole⟩
  · intro h2 p past atMost room footer confirms sync
    exact microStep_confirms native parsed past atMost
      ⟨room, footer, (flacSyncAt_drop p s.buf).mpr sync, h2, confirms⟩
  · intro flushing past atMost footer noneBefore
    refine ⟨microStep_flush_end native parsed flushing past atMost footer noneBefore, ?_⟩
    obtain ⟨k, e⟩ := decodeFlac_state s.buf none s
    rw [e]

end Sys2Proof.Machine

/-! The header decoders' rows: their frame, and that more bytes behind never change Invalid or Parsed (R134,
R135). -/

namespace Sys2Proof.Machine

set_option Elab.async false

/-! ### The rows by their decoders -/

theorem exec_mpegHdr (b : Bytes) (s : State) :
    exec (.mpegHdr b) s = unitReturns (.mpeg (decodeMpeg b s).1) (decodeMpeg b s).2 := rfl

theorem exec_adtsHdr (b : Bytes) (s : State) :
    exec (.adtsHdr b) s = unitReturns (.adts (decodeAdts b s).1) (decodeAdts b s).2 := rfl

theorem exec_flacHdr (b : Bytes) (s : State) :
    exec (.flacHdr b) s
      = unitReturns (.flac (decodeFlac b (flacReference s) s).1) (decodeFlac b (flacReference s) s).2 := rfl

theorem exec_oggPage (b : Bytes) (s : State) :
    exec (.oggPage b) s = unitReturns (.page (decodeOggPage b)) s := rfl

/-- A row whose unit writes lastKey alone writes lastKey and the result alone. -/
theorem unitReturns_relooked {s u : State} (r : UnitResult) (look : Relooked s u) :
    ∃ k, unitReturns r u = .next { s with lastKey := k, result := r } := by
  obtain ⟨k, rfl⟩ := look
  exact ⟨k, rfl⟩

/-- Settles O24: the cache lookup is the one write of a header decoder; the page decoder looks nothing up. -/
theorem headerRowsWriteLastKeyAlone : Obligations.HeaderRowsWriteLastKeyAlone := by
  intro b s
  exact ⟨⟨_, unitReturns_relooked (.mpeg (decodeMpeg b s).1) (decodeMpeg_state b s)⟩,
    ⟨_, unitReturns_relooked (.adts (decodeAdts b s).1) (decodeAdts_state b s)⟩,
    ⟨_, unitReturns_relooked (.flac (decodeFlac b (flacReference s) s).1)
      (decodeFlac_state b (flacReference s) s)⟩,
    ⟨_, exec_oggPage b s⟩⟩

/-! ### Invalid and Parsed are final (R135) -/

/-- A row that answers no Need leaves no Need open, whatever comes behind. -/
theorem stillShort_of_final {α : Type} (wrap : DecodeResult α → UnitResult) {a : DecodeResult α}
    {u t : State} {b d : Bytes} (row : unitReturns (wrap a) u = .next t)
    (final : ∀ k, t.result ≠ wrap (.need k)) : StillShort a b d := by
  intro k need
  cases row
  exact absurd (congrArg wrap need) (final k)

/-- Settles O29: once a decoder's answer is no Need, its REQUIREs cover every byte it has read, and bytes behind
those are not read. -/
theorem decodersAreMonotone : Obligations.DecodersAreMonotone := by
  intro b d s t
  refine ⟨fun row final => ?_, fun row final => ?_, fun row final => ?_, fun row final => ?_⟩
  · rw [exec_mpegHdr, decodeMpeg_append d (stillShort_of_final .mpeg row final), ← exec_mpegHdr, row]
  · rw [exec_adtsHdr, decodeAdts_append d (stillShort_of_final .adts row final), ← exec_adtsHdr, row]
  · rw [exec_flacHdr, decodeFlac_append d (stillShort_of_final .flac row final), ← exec_flacHdr, row]
  · rw [exec_oggPage, decodeOggPage_append d (stillShort_of_final .page row final), ← exec_oggPage, row]

end Sys2Proof.Machine

/-! The cache operations of the engine port (R166, R167, R168). CACHE_STORE stands with the other map laws. -/

namespace Sys2Proof.Machine

set_option Elab.async false

/-! ### A lookup by its two outcomes (R166) -/

theorem cacheLookup_hit {key : Bytes} {s : State} {v : Header × Identity} (on : s.cacheEn = true)
    (held : cacheFind s.cacheMap key = some v) :
    cacheLookup key s = (some v, { s with lastKey := some key }) := by
  rcases cacheLookup_cases key s with ⟨w, -, found, e⟩ | ⟨off | absent, -⟩
  · cases held.symm.trans found
    exact e
  · cases on.symm.trans off
  · cases held.symm.trans absent

theorem cacheLookup_miss {key : Bytes} {s : State}
    (miss : s.cacheEn = false ∨ cacheFind s.cacheMap key = none) : cacheLookup key s = (none, s) := by
  rcases cacheLookup_cases key s with ⟨w, on, found, -⟩ | ⟨-, e⟩
  · rcases miss with off | absent
    · cases on.symm.trans off
    · cases found.symm.trans absent
  · exact e

/-! ### The rows by their operations -/

theorem exec_cacheLookup (key : Bytes) (s : State) :
    exec (.cacheLookup key) s = unitReturns (.lookup (cacheLookup key s).1) (cacheLookup key s).2 := rfl

theorem exec_cacheEnable (s : State) :
    exec .cacheEnable s = unitReturns .completed (cacheEnable s) := rfl

theorem exec_cacheReset (s : State) :
    exec .cacheReset s = unitReturns .completed (cacheReset s) := rfl

/-- Settles O22: a lookup by hit and miss; the other two rows write their constants in every state. -/
theorem cacheOperations : Obligations.CacheOperations := by
  intro s key
  refine ⟨fun v on held => ?hit, fun miss => ?miss, ?enable, ?reset⟩
  case hit => rw [exec_cacheLookup, cacheLookup_hit on held, unitReturns_eq]
  case miss => rw [exec_cacheLookup, cacheLookup_miss miss, unitReturns_eq]
  case enable => rw [exec_cacheEnable, unitReturns_eq, cacheEnable]
  case reset => rw [exec_cacheReset, unitReturns_eq, cacheReset]

end Sys2Proof.Machine

/-! Ogg pages (R188 to R200): the page header's decoder and its record, how the segment table splits a body into
packets, how a packet continued over a page's end is joined again, and the check of the page sequence. -/

namespace Sys2Proof.Machine

set_option Elab.async false

/-! ### Numbers read from bytes give the bytes back (R9) -/

theorem littleEndian_lt (b : Bytes) : littleEndian b < 2 ^ (8 * b.length) := by
  induction b with
  | nil => decide
  | cons x rest ih =>
    have byte : x.toNat < 2 ^ 8 := x.isLt
    rw [littleEndian, List.length_cons, Nat.mul_succ, Nat.pow_add]
    omega

theorem littleBytes_littleEndian (b : Bytes) : littleBytes b.length (littleEndian b) = b := by
  induction b with
  | nil => rfl
  | cons x rest ih =>
    have byte : x.toNat < 2 ^ 8 := x.isLt
    have low : BitVec.ofNat 8 (x.toNat + 2 ^ 8 * littleEndian rest) = x :=
      BitVec.eq_of_toNat_eq (by rw [BitVec.toNat_ofNat]; omega)
    have high : (x.toNat + 2 ^ 8 * littleEndian rest) / 2 ^ 8 = littleEndian rest := by omega
    rw [littleEndian, List.length_cons, littleBytes, low, high, ih]

theorem slice_length {b : Bytes} {i j : Nat} (inside : j ≤ b.length) : (slice b i j).length = j - i := by
  rw [slice, List.length_take, List.length_drop]
  omega

theorem littleEndian_slice_lt (b : Bytes) (i n : Nat) : littleEndian (slice b i (i + n)) < 2 ^ (8 * n) := by
  have few : (slice b i (i + n)).length ≤ n := by
    rw [slice, Nat.add_sub_cancel_left]
    exact List.length_take_le _ _
  exact (littleEndian_lt _).trans_le (Nat.pow_le_pow_right (by decide) (Nat.mul_le_mul_left 8 few))

theorem littleBytes_slice {b : Bytes} {i n : Nat} (inside : i + n ≤ b.length) :
    littleBytes n (littleEndian (slice b i (i + n))) = slice b i (i + n) := by
  have bytes := littleBytes_littleEndian (slice b i (i + n))
  rwa [slice_length inside, Nat.add_sub_cancel_left] at bytes

theorem le64_lt (b : Bytes) (i : Nat) : le64 b i < 2 ^ 64 := littleEndian_slice_lt b i 8

theorem littleBytes_le32 {b : Bytes} {i : Nat} (inside : i + 4 ≤ b.length) :
    littleBytes 4 (BitVec.ofNat 32 (le32 b i)).toNat = slice b i (i + 4) := by
  rw [BitVec.toNat_ofNat, le32, Nat.mod_eq_of_lt (littleEndian_slice_lt b i 4), littleBytes_slice inside]

theorem sext_emod {n v : Nat} (small : v < 2 ^ n) : (sext n v % 2 ^ n).toNat = v := by
  have small' : (v : Int) < 2 ^ n := by exact_mod_cast small
  have remainder : sext n v % 2 ^ n = v := by
    unfold sext
    split
    · rw [Int.sub_emod_right, Int.emod_eq_of_lt (Int.natCast_nonneg v) small']
    · exact Int.emod_eq_of_lt (Int.natCast_nonneg v) small'
  rw [remainder, Int.toNat_natCast]

theorem sext_64_bounds {v : Nat} (small : v < 2 ^ 64) : -(2 ^ 63) ≤ sext 64 v ∧ sext 64 v < 2 ^ 63 := by
  unfold sext
  split <;> omega

theorem littleBytes_sext_le64 {b : Bytes} {i : Nat} (inside : i + 8 ≤ b.length) :
    littleBytes 8 (sext 64 (le64 b i) % 2 ^ 64).toNat = slice b i (i + 8) := by
  rw [sext_emod (le64_lt b i), le64, littleBytes_slice inside]

theorem bitsByte_toNat (x : Byte) : bitsByte x.toNat = x :=
  (BitVec.ofNat_toNat 8 x).trans (BitVec.setWidth_eq x)

/-! ### Consecutive slices join (R8) -/

theorem take_append_slice (b : Bytes) {i j : Nat} (h : i ≤ j) : b.take i ++ slice b i j = b.take j := by
  rw [slice, ← List.take_add, Nat.add_sub_cancel' h]

theorem singleton_byteAt {b : Bytes} {i : Nat} (inside : i < b.length) :
    [byteAt b i] = slice b i (i + 1) := by
  rw [slice, Nat.add_sub_cancel_left, List.drop_eq_getElem_cons inside, List.take_succ_cons, byteAt,
    List.getD_eq_getElem _ _ inside, List.take_zero]

/-! ### The page header (R188 to R190) -/

/-- R66's reserved headers are those that one of the decoder's three checks refuses. -/
theorem oggReserved_eq_false_iff (b : Bytes) :
    oggReserved b = false ↔
      slice b 0 4 = Pattern.oggS ∧ byteAt b 4 = 0 ∧ field (byteAt b 5) 7 3 = 0 := by
  have flags : ¬ 8 ≤ (byteAt b 5).toNat ↔ field (byteAt b 5) 7 3 = 0 := by
    have := (byteAt b 5).isLt
    simp only [field]
    omega
  rw [← flags]
  simp [oggReserved, Pattern.oggS, slice, and_assoc]

theorem decodeOggPage_invalid {b : Bytes} (enough : 27 ≤ b.length) (reserved : oggReserved b = true) :
    decodeOggPage b = .invalid := by
  have refused : ¬ (slice b 0 4 = Pattern.oggS ∧ byteAt b 4 = 0 ∧ field (byteAt b 5) 7 3 = 0) := by
    rw [← oggReserved_eq_false_iff, reserved]
    decide
  unfold decodeOggPage
  rw [if_neg (not_lt.mpr enough)]
  split
  · rfl
  · next capture =>
    split
    · rfl
    · next version =>
      exact if_pos fun flags => refused ⟨not_not.mp capture, not_not.mp version, flags⟩

/-- A header that is not reserved asks for its segment table, then is parsed. -/
theorem decodeOggPage_legal {b : Bytes} (enough : 27 ≤ b.length) (legal : oggReserved b = false) :
    decodeOggPage b = if b.length < 27 + (byteAt b 26).toNat then .need (27 + (byteAt b 26).toNat)
      else .parsed (oggPageRecord b) := by
  obtain ⟨capture, version, flags⟩ := (oggReserved_eq_false_iff b).mp legal
  unfold decodeOggPage
  rw [if_neg (not_lt.mpr enough), if_neg (not_not.mpr capture), if_neg (not_not.mpr version),
    if_neg (not_not.mpr flags)]

/-- The record's fields, put together, are the header's bytes one after the other. -/
theorem oggHeaderBytes_oggPageRecord {b : Bytes} (capture : slice b 0 4 = Pattern.oggS)
    (whole : 27 + (byteAt b 26).toNat ≤ b.length) :
    oggHeaderBytes (oggPageRecord b) = b.take (27 + (byteAt b 26).toNat) := by
  have grow {i j : Nat} (h : i ≤ j) : b.take i ++ slice b i j = b.take j := take_append_slice b h
  have fixed : [0x4F, 0x67, 0x67, 0x53, byteAt b 4, byteAt b 5] = b.take 6 := by
    rw [← grow (show 5 ≤ 6 by decide), ← grow (show 4 ≤ 5 by decide),
      ← singleton_byteAt (show 4 < b.length by omega), ← singleton_byteAt (show 5 < b.length by omega)]
    exact congrArg (fun c => c ++ [byteAt b 4] ++ [byteAt b 5]) capture.symm
  simp only [oggHeaderBytes, oggPageRecord, bitsByte_toNat, fixed]
  rw [littleBytes_sext_le64 (by omega), littleBytes_le32 (by omega), littleBytes_le32 (by omega),
    littleBytes_le32 (by omega), singleton_byteAt (by omega), grow (by decide), grow (by decide),
    grow (by decide), grow (by decide), grow (by decide), grow (by omega)]

/-- Each lacing value is at most 255. -/
theorem sum_toNat_le (table : Bytes) : (table.map BitVec.toNat).sum ≤ table.length * 255 := by
  have bounded : ∀ n ∈ table.map BitVec.toNat, n ≤ 255 := by
    intro n mem
    obtain ⟨v, -, rfl⟩ := List.mem_map.mp mem
    exact Nat.le_of_lt_succ v.isLt
  simpa using List.sum_le_card_nsmul _ 255 bounded

/-- R190's bound: 282 header bytes and 255 lacing values of 255. -/
theorem oggPageRecord_pageLength_le (b : Bytes) : (oggPageRecord b).pageLength ≤ 65307 := by
  have segments := oggPageRecord_segmentTable_length_le b
  have body := sum_toNat_le (oggPageRecord b).segmentTable
  have byte : (byteAt b 26).toNat < 2 ^ 8 := (byteAt b 26).isLt
  have total : (oggPageRecord b).pageLength
      = 27 + (byteAt b 26).toNat + ((oggPageRecord b).segmentTable.map BitVec.toNat).sum := rfl
  omega

/-- Settles O28: the decoder's answers by R188's checks, and the record of the header's bytes. -/
theorem oggPageHeaderDecodes : Obligations.OggPageHeaderDecodes := by
  intro b s n
  have byte : n < 2 ^ 8 := (byteAt b 26).isLt
  refine ⟨fun few => ?few, fun enough reserved => ?invalid, fun enough legal short => ?table,
    fun legal whole => ?parsed⟩
  case few => rw [exec_oggPage, decodeOggPage, if_pos few, unitReturns_eq]
  case invalid => rw [exec_oggPage, decodeOggPage_invalid enough reserved, unitReturns_eq]
  case table => rw [exec_oggPage, decodeOggPage_legal enough legal, if_pos short, unitReturns_eq]
  case parsed =>
    have enough : 27 ≤ b.length := (Nat.le_add_right 27 n).trans whole
    have capture := ((oggReserved_eq_false_iff b).mp legal).1
    have answer : exec (.oggPage b) s = .next { s with result := .page (.parsed (oggPageRecord b)) } := by
      rw [exec_oggPage, decodeOggPage_legal enough legal, if_neg (not_lt.mpr whole), unitReturns_eq]
    have table : slice b 27 (27 + n) = (b.drop 27).take n := by rw [slice, Nat.add_sub_cancel_left]
    have segments : (slice b 27 (27 + n)).length = n := by
      rw [slice_length whole, Nat.add_sub_cancel_left]
    obtain ⟨low, high⟩ := sext_64_bounds (le64_lt b 6)
    exact ⟨oggPageRecord b, answer, oggHeaderBytes_oggPageRecord capture whole, rfl, rfl, rfl, rfl, rfl,
      low, high, rfl, table, segments, rfl, rfl, rfl, Nat.le_add_right 27 n,
      show 27 + n ≤ 282 by omega, oggPageRecord_pageLength_le b⟩

/-! ### Splitting by lacing values (R195, R197) -/

/-- A lacing value below 255 ends the packet begun. -/
theorem splitPackets_complete {v : Byte} (rest body cur : Bytes) (ends : v.toNat < 255) :
    splitPackets (v :: rest) body cur
      = (cur ++ body.take v.toNat, false) :: splitPackets rest (body.drop v.toNat) [] := by
  simp only [splitPackets, if_pos ends]

/-- A lacing value of 255 with another behind it goes on with the packet begun. -/
theorem splitPackets_continued {rest : Bytes} (body cur : Bytes) (more : rest ≠ []) :
    splitPackets (255 :: rest) body cur = splitPackets rest (body.drop 255) (cur ++ body.take 255) := by
  rw [splitPackets]
  exact if_neg more

/-- A last lacing value of 255 leaves the packet begun open. -/
theorem splitPackets_open (body cur : Bytes) :
    splitPackets [255] body cur = [(cur ++ body.take 255, true)] := rfl

/-- What holds in each of the four cases of splitPackets holds of every table. -/
theorem splitPackets_induction {motive : Bytes → Bytes → Bytes → Prop}
    (empty : ∀ body cur, motive [] body cur)
    (complete : ∀ v rest body cur, v.toNat < 255 → motive rest (body.drop v.toNat) [] →
      motive (v :: rest) body cur)
    (last : ∀ body cur, motive [255] body cur)
    (continued : ∀ rest body cur, rest ≠ [] → motive rest (body.drop 255) (cur ++ body.take 255) →
      motive (255 :: rest) body cur)
    (table body cur : Bytes) : motive table body cur := by
  induction table generalizing body cur with
  | nil => exact empty body cur
  | cons v rest ih =>
    by_cases ends : v.toNat < 255
    · exact complete v rest body cur ends (ih _ _)
    · obtain rfl : v = 255 := BitVec.eq_of_toNat_eq (by have := v.isLt; simp; omega)
      by_cases single : rest = []
      · subst single
        exact last body cur
      · exact continued rest body cur single (ih _ _)

/-- The packets joined are the bytes of the packet begun and the body the table describes. -/
theorem splitPackets_flatten (table body cur : Bytes) (begun : table = [] → cur = [])
    (whole : body.length = (table.map BitVec.toNat).sum) :
    ((splitPackets table body cur).map (·.1)).flatten = cur ++ body := by
  induction table, body, cur using splitPackets_induction with
  | empty body cur =>
    rw [begun rfl, List.eq_nil_of_length_eq_zero whole]
    rfl
  | complete v rest body cur ends ih =>
    have tail : (body.drop v.toNat).length = (rest.map BitVec.toNat).sum := by
      rw [List.length_drop, whole, List.map_cons, List.sum_cons, Nat.add_sub_cancel_left]
    rw [splitPackets_complete _ _ _ ends, List.map_cons, List.flatten_cons, ih (fun _ => rfl) tail,
      List.nil_append, List.append_assoc, List.take_append_drop]
  | last body cur =>
    have all : body.length ≤ 255 := whole.le
    rw [splitPackets_open, List.take_of_length_le all]
    exact List.append_nil _
  | continued rest body cur more ih =>
    have tail : (body.drop 255).length = (rest.map BitVec.toNat).sum := by
      rw [List.length_drop, whole, List.map_cons, List.sum_cons]
      exact Nat.add_sub_cancel_left _ _
    rw [splitPackets_continued _ _ more, ih (fun none => absurd none more) tail, List.append_assoc,
      List.take_append_drop]

theorem mem_dropLast_cons {α : Type} {a x : α} {l : List α} (h : x ∈ (a :: l).dropLast) :
    x = a ∨ x ∈ l.dropLast := by
  cases l with
  | nil => cases h
  | cons b l => exact List.mem_cons.mp h

/-- Only the last packet of a page can be open. -/
theorem splitPackets_dropLast (table body cur : Bytes) :
    ∀ pk ∈ (splitPackets table body cur).dropLast, pk.2 = false := by
  induction table, body, cur using splitPackets_induction with
  | empty => nofun
  | complete v rest body cur ends ih =>
    intro pk mem
    rw [splitPackets_complete _ _ _ ends] at mem
    rcases mem_dropLast_cons mem with rfl | behind
    · rfl
    · exact ih pk behind
  | last => nofun
  | continued rest body cur more ih =>
    rw [splitPackets_continued _ _ more]
    exact ih

/-- The last packet of a page is open exactly when the last lacing value is 255. -/
theorem splitPackets_getLast? (table body cur : Bytes) :
    ((splitPackets table body cur).map (·.2)).getLast? = (table.map (· == 255)).getLast? := by
  induction table, body, cur using splitPackets_induction with
  | empty => rfl
  | complete v rest body cur ends ih =>
    have short : (v == 255) = false := by
      rw [beq_eq_false_iff_ne]
      rintro rfl
      exact absurd ends (by decide)
    rw [splitPackets_complete _ _ _ ends, List.map_cons, List.getLast?_cons, ih, List.map_cons,
      List.getLast?_cons, short]
  | last => rfl
  | continued rest body cur more ih =>
    rw [splitPackets_continued _ _ more, ih, List.getLast?_map, List.getLast?_map,
      List.getLast?_cons_of_ne_nil more]

/-! ### Lacing (R195, R196) -/

theorem lacing_of_lt {n : Nat} (short : n < 255) : lacing n = [BitVec.ofNat 8 n] := by
  rw [lacing, Nat.div_eq_of_lt short, Nat.mod_eq_of_lt short]
  rfl

theorem lacing_of_ge {n : Nat} (long : 255 ≤ n) : lacing n = 255 :: lacing (n - 255) := by
  rw [lacing, lacing, Nat.div_eq_sub_div (by decide) long, List.replicate_succ, Nat.mod_eq_sub_mod long]
  rfl

theorem lacing_ne_nil (n : Nat) : lacing n ≠ [] := by simp [lacing]

/-- The lacing values of a packet take its bytes off the body and end it there. -/
theorem splitPackets_lacing (p table body cur : Bytes) :
    splitPackets (lacing p.length ++ table) (p ++ body) cur
      = (cur ++ p, false) :: splitPackets table body [] := by
  by_cases short : p.length < 255
  · have value : (BitVec.ofNat 8 p.length).toNat = p.length := by
      rw [BitVec.toNat_ofNat, Nat.mod_eq_of_lt (by omega)]
    rw [lacing_of_lt short, List.singleton_append, splitPackets_complete _ _ _ (value.trans_lt short),
      value, List.take_left, List.drop_left]
  · have long : 255 ≤ p.length := not_lt.mp short
    have more : lacing (p.length - 255) ++ table ≠ [] :=
      fun none => lacing_ne_nil _ (List.append_eq_nil_iff.mp none).1
    rw [lacing_of_ge long, List.cons_append, splitPackets_continued _ _ more,
      List.drop_append_of_le_length long, List.take_append_of_le_length long, ← List.length_drop,
      splitPackets_lacing, List.append_assoc, List.take_append_drop]
termination_by p.length
decreasing_by rw [List.length_drop]; omega

theorem splitPackets_laceAll (ps : List Bytes) :
    splitPackets (laceAll ps) ps.flatten [] = ps.map fun p => (p, false) := by
  induction ps with
  | nil => rfl
  | cons p rest ih =>
    rw [laceAll, List.flatMap_cons, List.flatten_cons, splitPackets_lacing, ← laceAll, ih]
    rfl

/-- Settles O38: a packet's lacing values end it at its last byte, and each packet split off takes the bytes its
lacing values count. -/
theorem lacingSplitsTheBody : Obligations.LacingSplitsTheBody := by
  refine ⟨splitPackets_laceAll, fun table body whole => ⟨?joined, splitPackets_length table body [],
    splitPackets_dropLast table body [], ?last⟩⟩
  case joined => exact splitPackets_flatten table body [] (fun _ => rfl) whole
  case last =>
    have flags := splitPackets_getLast? table body []
    rw [List.getLast?_map, List.getLast?_map] at flags
    constructor
    · rintro ⟨q, isOpen⟩
      rw [isOpen] at flags
      obtain ⟨v, last, full⟩ := Option.map_eq_some_iff.mp flags.symm
      rw [last, eq_of_beq full]
    · intro full
      rw [full] at flags
      obtain ⟨⟨q, _⟩, last, rfl⟩ := Option.map_eq_some_iff.mp flags
      exact ⟨q, last⟩

/-! ### Continuation (R198, R200) -/

/-- The pending bytes, none or some, stand in front of the first packet. -/
theorem prependPending_cons (p0 : Bytes) (k0 : Bool) (rest : List PagePacket) (s : State) :
    prependPending ((p0, k0) :: rest) s = ((s.pending ++ p0, k0) :: rest, { s with pending := [] }) := by
  unfold prependPending
  simp only
  split
  · next none => rw [none, List.nil_append, ← none]
  · rfl

theorem holdBack_of_complete {pk : List PagePacket} (closed : pk.getLast?.map (·.2) ≠ some true)
    (s : State) : holdBack pk s = (pk.map (·.1), s) := by
  unfold holdBack
  split
  · next q last => exact absurd (congrArg (Option.map (·.2)) last) closed
  · rfl

theorem holdBack_of_open {pk : List PagePacket} (isOpen : pk.getLast?.map (·.2) = some true) (s : State) :
    holdBack pk s = ((pk.map (·.1)).dropLast, setPending ((pk.map (·.1)).getLastD []) s) := by
  obtain ⟨⟨q, _⟩, last, rfl⟩ := Option.map_eq_some_iff.mp isOpen
  rw [List.getLastD_eq_getLast?, List.getLast?_map, last, holdBack, last, ← List.map_dropLast]
  rfl

/-- Whether the last packet is open does not depend on the bytes of the first. -/
theorem getLast?_open_cons (p p' : Bytes) (k : Bool) (rest : List PagePacket) :
    (((p, k) :: rest).getLast?.map (·.2)) = (((p', k) :: rest).getLast?.map (·.2)) := by
  rw [← List.getLast?_map, ← List.getLast?_map]
  rfl

theorem setPending_fits {q : Bytes} {s : State} (fits : q.length ≤ s.par.pendCap) :
    setPending q s = { s with pending := q } := if_pos fits

theorem setPending_overflows {q : Bytes} {s : State} (exceeds : s.par.pendCap < q.length) :
    setPending q s = warn .pendingOverflow 0 (.length q.length) { s with pending := [] } :=
  if_neg (not_le.mpr exceeds)

theorem continuation_cons (p0 : Bytes) (k0 : Bool) (rest : List PagePacket) (s : State) :
    continuation ((p0, k0) :: rest) s
      = holdBack ((s.pending ++ p0, k0) :: rest) { s with pending := [] } := by
  rw [continuation, prependPending_cons]

/-- Settles O39: the pending bytes go in front, then an open last packet is held back or dropped. -/
theorem continuationReassembles : Obligations.ContinuationReassembles := by
  intro s
  refine ⟨rfl, fun p0 k0 rest => ?_⟩
  rw [getLast?_open_cons p0 (s.pending ++ p0), continuation_cons]
  refine ⟨fun closed => ?_, fun isOpen => ⟨fun fits => ?_, fun exceeds => ?_⟩⟩
  · exact holdBack_of_complete (by rw [closed]; decide) _
  · exact (holdBack_of_open isOpen _).trans (congrArg (Prod.mk _) (setPending_fits fits))
  · exact (holdBack_of_open isOpen _).trans (congrArg (Prod.mk _) (setPending_overflows exceeds))

/-- A warning at the cursor stands at the tail of outQ while logging, and nothing else is written. -/
theorem warn_cursor (w : Warning) (info : WarnInfo) (s : State) :
    warn w 0 info s
      = { s with outQ := s.outQ ++ if s.logEn = true then [.warn w s.pos info] else [] } := by
  rcases warn_cases w 0 info s with ⟨on, e⟩ | ⟨off, e⟩ <;> rw [e]
  · rw [if_pos on, BitVec.add_zero]
    rfl
  · rw [if_neg (ne_true_of_eq_false off), List.append_nil]

/-! ### What a packet parser writes, its warning named (R208, R209, R238) -/

/-- What a packet p queues of its own: nothing or, while logging, one W5 or W6 at the cursor with its length. -/
def PacketWarning (p : Bytes) (s : State) (q : List Event) : Prop :=
  q = [] ∨ (s.logEn = true ∧ ∃ w, (w = .badPacket ∨ w = .badIdHeader) ∧
    q = [.warn w s.pos (.length p.length)])

/-- From s to u the Ogg codec registers, lastKey and the tail of outQ alone are written, the latter by the
warning of the packet p. -/
def PacketWrites (p : Bytes) (s u : State) : Prop :=
  ∃ a r f v n k q, u = { s with
      idHeader := a, idRaw := r, streamInfo := f, vorbisSetup := v, vorbisState := n, lastKey := k,
      outQ := s.outQ ++ q } ∧ PacketWarning p s q

namespace PacketWrites

theorem silent (p : Bytes) (s : State) (a : Option IdHeader) (r : Option Bytes) (f : Option StreamInfo)
    (v : Option Bytes) (n : Option Nat) (k : Option Bytes) : PacketWrites p s { s with
      idHeader := a, idRaw := r, streamInfo := f, vorbisSetup := v, vorbisState := n, lastKey := k } :=
  ⟨a, r, f, v, n, k, [], by rw [List.append_nil], .inl rfl⟩

theorem refl (p : Bytes) (s : State) : PacketWrites p s s := silent p s _ _ _ _ _ _

theorem looked (p : Bytes) {s u : State} (look : Relooked s u) : PacketWrites p s u := by
  obtain ⟨k, rfl⟩ := look
  exact silent p s _ _ _ _ _ k

theorem warned {w : Warning} (packet : w = .badPacket ∨ w = .badIdHeader) (p : Bytes) {s u : State}
    (look : Relooked s u) : PacketWrites p s (warn w 0 (.length p.length) u) := by
  obtain ⟨k, rfl⟩ := look
  refine ⟨_, _, _, _, _, k, _, warn_cursor w _ _, ?_⟩
  split
  · next on => exact .inr ⟨on, w, packet, rfl⟩
  · exact .inl rfl

theorem badPacket (p : Bytes) {s u : State} (look : Relooked s u) :
    PacketWrites p s (badPacket p u).2 := warned (.inl rfl) p look

theorem badIdHeader (p : Bytes) (s : State) : PacketWrites p s (badIdHeader p s).2 :=
  warned (.inr rfl) p (.refl s)

theorem opusIdPacket (p : Bytes) (s : State) : PacketWrites p s (opusIdPacket p s).2 := by
  unfold Machine.opusIdPacket
  split
  · exact refl p s
  · split
    · exact silent p s _ _ _ _ _ _
    · exact badIdHeader p s

theorem opusAudioPacket (p : Bytes) (s : State) : PacketWrites p s (opusAudioPacket p s).2 := by
  unfold Machine.opusAudioPacket
  split
  · split
    · exact badPacket p (.refl s)
    · have look : Relooked s (cacheLookup (opusKey s p) s).2 := cacheLookup_state _ s
      simp only
      split
      · exact looked p look
      · exact badPacket p look
  · exact badPacket p (.refl s)

theorem opusPacket (p : Bytes) (s : State) : PacketWrites p s (opusPacket p s).2 := by
  unfold Machine.opusPacket
  split
  · exact opusIdPacket p s
  · split
    · exact refl p s
    · exact opusAudioPacket p s

theorem vorbisIdPacket (p : Bytes) (s : State) : PacketWrites p s (vorbisIdPacket p s).2 := by
  unfold Machine.vorbisIdPacket
  split
  · exact refl p s
  · split
    · exact silent p s _ _ _ _ _ _
    · exact badIdHeader p s

theorem vorbisSetupPacket (p : Bytes) (s : State) : PacketWrites p s (vorbisSetupPacket p s).2 := by
  unfold Machine.vorbisSetupPacket
  split
  · exact refl p s
  · exact silent p s _ _ _ _ _ _

theorem vorbisAudioPacket (p : Bytes) (s : State) : PacketWrites p s (vorbisAudioPacket p s).2 := by
  unfold Machine.vorbisAudioPacket
  split
  · exact silent p s _ _ _ _ _ _
  · exact badPacket p (.refl s)

theorem vorbisPacket (p : Bytes) (s : State) : PacketWrites p s (vorbisPacket p s).2 := by
  unfold Machine.vorbisPacket
  split
  · exact badPacket p (.refl s)
  · split
    · split
      · exact vorbisIdPacket p s
      · split
        · exact refl p s
        · split
          · exact vorbisSetupPacket p s
          · exact badPacket p (.refl s)
    · exact vorbisAudioPacket p s

theorem oggFlacIdPacket (p : Bytes) (s : State) : PacketWrites p s (oggFlacIdPacket p s).2 := by
  unfold Machine.oggFlacIdPacket
  split
  · exact refl p s
  · split
    · exact silent p s _ _ _ _ _ _
    · exact badIdHeader p s

theorem oggFlacFramePacket (p : Bytes) (s : State) : PacketWrites p s (oggFlacFramePacket p s).2 := by
  have look : Relooked s (decodeFlac p s.streamInfo s).2 := decodeFlac_state _ _ s
  unfold Machine.oggFlacFramePacket
  split
  · split
    · next e => rw [e] at look; exact looked p look
    · next e => rw [e] at look; exact badPacket p look
  · exact badPacket p (.refl s)

theorem oggFlacPacket (p : Bytes) (s : State) : PacketWrites p s (oggFlacPacket p s).2 := by
  unfold Machine.oggFlacPacket
  split
  · exact oggFlacIdPacket p s
  · split
    · exact oggFlacFramePacket p s
    · exact refl p s

theorem codecPacket (p : Bytes) (s : State) : PacketWrites p s (codecPacket p s).2 := by
  unfold Machine.codecPacket
  split
  · exact opusPacket p s
  · exact vorbisPacket p s
  · exact oggFlacPacket p s
  all_goals exact refl p s

end PacketWrites

/-! ### The sequence check is the page's only one (R194) -/

/-- The event is no W4. -/
def NotSeqGap (e : Event) : Prop := ∀ o i, e ≠ .warn .oggSeqGap o i

theorem notSeqGap_of_not_warning {e : Event} (quiet : isWarning e = false) : NotSeqGap e := by
  rintro o i rfl
  cases quiet

theorem notSeqGap_warn {w : Warning} (other : w ≠ .oggSeqGap) (o : Word64) (i : WarnInfo) :
    NotSeqGap (.warn w o i) := by
  rintro o' i' same
  cases same
  exact other rfl

/-- From s to t the sequence registers stand, and no W4 is queued. -/
structure KeepsSequence (s t : State) : Prop where
  lastSeq : t.lastSeq = s.lastSeq
  pagesSeen : t.pagesSeen = s.pagesSeen
  queued : ∃ q, t.outQ = s.outQ ++ q ∧ ∀ e ∈ q, NotSeqGap e

namespace KeepsSequence

theorem of_eq {s t : State} (lastSeq : t.lastSeq = s.lastSeq) (pagesSeen : t.pagesSeen = s.pagesSeen)
    (outQ : t.outQ = s.outQ) : KeepsSequence s t :=
  ⟨lastSeq, pagesSeen, [], by rw [outQ, List.append_nil], List.forall_mem_nil _⟩

theorem refl (s : State) : KeepsSequence s s := of_eq rfl rfl rfl

theorem trans {s t u : State} (a : KeepsSequence s t) (b : KeepsSequence t u) : KeepsSequence s u := by
  obtain ⟨p, hp, np⟩ := a.queued
  obtain ⟨q, hq, nq⟩ := b.queued
  refine ⟨b.lastSeq.trans a.lastSeq, b.pagesSeen.trans a.pagesSeen, p ++ q,
    by rw [hq, hp, List.append_assoc], fun e mem => ?_⟩
  exact (List.mem_append.mp mem).elim (np e) (nq e)

theorem emit {e : Event} (other : NotSeqGap e) (s : State) : KeepsSequence s (emit e s) :=
  ⟨rfl, rfl, [e], rfl, by simpa using other⟩

theorem warn {w : Warning} (other : w ≠ .oggSeqGap) (off : Nat) (info : WarnInfo) (s : State) :
    KeepsSequence s (warn w off info s) := by
  rcases warn_cases w off info s with ⟨-, e⟩ | ⟨-, e⟩ <;> rw [e]
  · exact emit (notSeqGap_warn other _ _) s
  · exact refl s

theorem setPending (q : Bytes) (s : State) : KeepsSequence s (setPending q s) := by
  unfold Machine.setPending
  split
  · exact of_eq rfl rfl rfl
  · exact trans (t := { s with pending := [] }) (of_eq rfl rfl rfl) (warn (by decide) _ _ _)

theorem holdBack (pk : List PagePacket) (s : State) : KeepsSequence s (holdBack pk s).2 := by
  unfold Machine.holdBack
  split
  · exact setPending _ s
  · exact refl s

theorem continuation (pk : List PagePacket) (s : State) : KeepsSequence s (continuation pk s).2 := by
  have front : KeepsSequence s (prependPending pk s).2 := by
    rcases prependPending_state pk s with e | e <;> rw [e]
    · exact refl s
    · exact of_eq rfl rfl rfl
  exact front.trans (holdBack _ _)

theorem recognise (pk : List Bytes) (s : State) : KeepsSequence s (recognise pk s).2 := by
  rcases recognise_cases pk s with e | ⟨c, -, -, e⟩ <;> rw [e]
  · exact refl s
  · exact trans (t := { s with codec := c }) (of_eq rfl rfl rfl)
      (emit (notSeqGap_of_not_warning rfl) _)

theorem codecPacket (p : Bytes) (s : State) : KeepsSequence s (codecPacket p s).2 := by
  obtain ⟨_, _, _, _, _, _, q, e, own⟩ := PacketWrites.codecPacket p s
  rw [e]
  refine ⟨rfl, rfl, q, rfl, ?_⟩
  rcases own with rfl | ⟨-, w, packet, rfl⟩
  · exact List.forall_mem_nil _
  · have other : w ≠ .oggSeqGap := by rcases packet with rfl | rfl <;> decide
    simpa using notSeqGap_warn other _ _

theorem afterFrame (h : Header) (d : Bytes) (s : State) : KeepsSequence s (afterFrame h d s) := by
  refine ⟨rfl, rfl, callbacksOf h s, rfl, fun e mem => notSeqGap_of_not_warning ?_⟩
  rcases List.mem_append.mp mem with first | update
  · obtain ⟨-, rfl⟩ := List.mem_ite_nil_right.mp first |>.imp id List.mem_singleton.mp
    rfl
  · obtain ⟨-, rfl⟩ := List.mem_ite_nil_right.mp update |>.imp id List.mem_singleton.mp
    rfl

theorem dispatchPackets (pk : List Bytes) (c : Bool) (s : State) :
    KeepsSequence s (dispatchPackets pk c s).2 := by
  induction pk generalizing s with
  | nil => exact refl s
  | cons p rest ih =>
    have parsed := codecPacket p s
    rcases answer : Machine.codecPacket p s with ⟨r, u⟩
    rw [answer] at parsed
    by_cases framed : ∃ h, r = .frame h
    · obtain ⟨h, rfl⟩ := framed
      rw [dispatchPackets_frame rest c answer]
      exact (parsed.trans (afterFrame h p u)).trans (ih _)
    · rw [dispatchPackets_noFrame rest c answer (not_exists.mp framed)]
      exact parsed.trans (ih u)

/-- After its sequence check a page keeps the sequence registers and queues no W4. -/
theorem processPage (h : OggPageHeader) (c : Bool) (s : State) :
    KeepsSequence (seqCheck h s) (processPage h c s) := by
  have known : KeepsSequence (seqCheck h s)
      (Machine.recognise (pagePackets h s).1 (pagePackets h s).2).2 :=
    (continuation _ (seqCheck h s)).trans (recognise _ _)
  have effects : KeepsSequence (seqCheck h s) (pageEffects h c s) := by
    rw [pageEffects_eq]
    simp only
    split
    · exact (known.trans (dispatchPackets _ c _)).trans (emit (notSeqGap_of_not_warning rfl) _)
    · exact known
  exact effects.trans (of_eq rfl rfl rfl)

end KeepsSequence

/-- The sequence check sets the two registers, and queues W4 when it is due. -/
theorem seqCheck_eq (h : OggPageHeader) (s : State) :
    seqCheck h s = { s with
      lastSeq := h.pageSequenceNumber, pagesSeen := min 2 (s.pagesSeen + 1),
      outQ := s.outQ ++
        if s.logEn = true ∧ s.pagesSeen = 2 ∧ h.pageSequenceNumber ≠ s.lastSeq + 1
        then [.warn .oggSeqGap s.pos (.sequence s.lastSeq h.pageSequenceNumber)] else [] } := by
  unfold seqCheck
  simp only
  by_cases gap : s.pagesSeen = 2 ∧ h.pageSequenceNumber ≠ s.lastSeq + 1
  · rw [if_pos gap, warn_cursor]
    simp only [gap, ne_eq, not_false_eq_true, and_true]
  · rw [if_neg gap, if_neg (fun due => gap due.2), List.append_nil]

/-- Settles O40: the sequence check comes first, and nothing behind it touches its registers or queues W4. -/
theorem pageSequenceIsChecked : Obligations.PageSequenceIsChecked := by
  intro h c s
  obtain ⟨lastSeq, pagesSeen, q, queue, others⟩ := KeepsSequence.processPage h c s
  rw [seqCheck_eq] at lastSeq pagesSeen queue
  exact ⟨lastSeq, pagesSeen, q, queue, others⟩

end Sys2Proof.Machine

/-! The packet rows of the Ogg codecs (R208 to R229): what each identification packet is refused for and the record
it gives, the frames of Opus and Vorbis audio packets, and what no packet row touches. -/

namespace Sys2Proof.Machine

set_option Elab.async false

/-! ### The rows by their parsers -/

theorem exec_opusId (p : Bytes) (s : State) :
    exec (.opusId p) s = packetReturns (opusIdPacket p s) := rfl

theorem exec_opusToc (p : Bytes) (s : State) :
    exec (.opusToc p) s = packetReturns (opusAudioPacket p s) := rfl

theorem exec_vorbisId (p : Bytes) (s : State) :
    exec (.vorbisId p) s = packetReturns (vorbisIdPacket p s) := rfl

theorem exec_vorbisSetup (p : Bytes) (s : State) :
    exec (.vorbisSetup p) s = packetReturns (vorbisSetupPacket p s) := rfl

theorem exec_vorbisAudio (p : Bytes) (s : State) :
    exec (.vorbisAudio p) s = packetReturns (vorbisAudioPacket p s) := rfl

theorem exec_oggflacId (p : Bytes) (s : State) :
    exec (.oggflacId p) s = packetReturns (oggFlacIdPacket p s) := rfl

theorem packetReturns_consumed (s : State) :
    packetReturns (.consumed, s) = .next { s with result := .packet .consumed } := rfl

/-- An undecodable packet's answer: W5 alone (R209). -/
theorem packetReturns_badPacket (p : Bytes) (s : State) : packetReturns (badPacket p s)
    = .next { warn .badPacket 0 (.length p.length) s with result := .packet .consumed } := rfl

/-- An Invalid identification header's answer: W6 alone (R209). -/
theorem packetReturns_badIdHeader (p : Bytes) (s : State) : packetReturns (badIdHeader p s)
    = .next { warn .badIdHeader 0 (.length p.length) s with result := .packet .consumed } := rfl

/-! ### The frame of the packet rows (R208, R209) -/

/-- A Skeleton packet is ignored, or goes to the active codec's parser (R201, R202). -/
theorem PacketWrites.skeletonPacket (p : Bytes) (s : State) : PacketWrites p s (skeletonPacket p s).2 := by
  unfold Machine.skeletonPacket
  split
  · exact refl p s
  · exact codecPacket p s

/-- Every packet row answers with a packet parser's result, and that parser writes what a packet may write. -/
theorem packetRow_writes {i : Instr} {p : Bytes} (s : State)
    (row : i ∈ ([.opusId p, .opusTags p, .opusToc p, .vorbisId p, .vorbisComment p, .vorbisSetup p, .vorbisAudio p,
      .oggflacId p, .skeletonFishead p, .skeletonFisbone p, .skeletonIndex p] : List Instr)) :
    ∃ r, exec i s = packetReturns r ∧ PacketWrites p s r.2 := by
  simp only [List.mem_cons, List.not_mem_nil, or_false] at row
  rcases row with rfl | rfl | rfl | rfl | rfl | rfl | rfl | rfl | rfl | rfl | rfl <;> refine ⟨_, rfl, ?_⟩
  · exact .opusIdPacket p s
  · exact .refl p s
  · exact .opusAudioPacket p s
  · exact .vorbisIdPacket p s
  · exact .refl p s
  · exact .vorbisSetupPacket p s
  · exact .vorbisAudioPacket p s
  · exact .oggFlacIdPacket p s
  · exact .skeletonPacket p s
  · exact .skeletonPacket p s
  · exact .skeletonPacket p s

/-- Settles O37: each row answers as its parser, and each parser's writes are bounded. -/
theorem packetRowsFrame : Obligations.PacketRowsFrame := by
  intro i p s row
  obtain ⟨⟨x, u⟩, answer, a, r, f, v, n, k, q, rfl, own⟩ := packetRow_writes s row
  exact ⟨a, r, f, v, n, k, q, x, answer, own⟩

/-! ### The Opus identification header (R210 to R212) -/

/-- The stream count N of R210: 1 for family 0, else byte 19. -/
def opusStreams (p : Bytes) : Nat :=
  if (byteAt p 18).toNat = 0 then 1 else (byteAt p 19).toNat

/-- The coupled stream count M of R210: C − 1 for family 0, else byte 20. -/
def opusCoupled (p : Bytes) : Nat :=
  if (byteAt p 18).toNat = 0 then (byteAt p 9).toNat - 1 else (byteAt p 20).toNat

/-- The channel mapping of R210: the C first of 0, 1 for family 0, else the C bytes from byte 21 on. -/
def opusMapping (p : Bytes) : Bytes :=
  if (byteAt p 18).toNat = 0 then [0, 1].take (byteAt p 9).toNat else (p.drop 21).take (byteAt p 9).toNat

/-- The mapping checks of R211 fail, for family ≠ 0. -/
def OpusMappingBad (p : Bytes) : Prop :=
  ((byteAt p 18).toNat = 1 ∧ 8 < (byteAt p 9).toNat) ∨ opusStreams p = 0 ∨ opusStreams p < opusCoupled p
    ∨ 255 < opusStreams p + opusCoupled p
    ∨ ∃ x ∈ opusMapping p, opusStreams p + opusCoupled p ≤ x.toNat ∧ x ≠ 255

/-- The identification packets R210 and R211 make Invalid. -/
def OpusIdBad (p : Bytes) : Prop :=
  p.length < 19 ∨ byteAt p 8 ≠ 1 ∨ (byteAt p 9).toNat = 0
    ∨ ((byteAt p 18).toNat = 0 ∧ 2 < (byteAt p 9).toNat)
    ∨ ((byteAt p 18).toNat ≠ 0 ∧ (p.length < 21 + (byteAt p 9).toNat ∨ OpusMappingBad p))

/-- R212's record of a packet. -/
def opusIdRecord (p : Bytes) : OpusId where
  version := 1
  channels := (byteAt p 9).toNat
  preSkip := le16 p 10
  inputSampleRate := le32 p 12
  outputGain := sext 16 (le16 p 16)
  mappingFamily := (byteAt p 18).toNat
  streamCount := opusStreams p
  coupledStreamCount := opusCoupled p
  channelMapping := opusMapping p

theorem opusMappingOk_iff (p : Bytes) :
    opusMappingOk (byteAt p 18).toNat (byteAt p 9).toNat (opusStreams p) (opusCoupled p) (opusMapping p) = true
      ↔ ¬ OpusMappingBad p := by
  simp only [opusMappingOk, OpusMappingBad, Bool.and_eq_true, Bool.or_eq_true, decide_eq_true_eq,
    List.all_eq_true, beq_iff_eq, not_or, not_and, not_exists, not_lt, and_assoc, Nat.one_le_iff_ne_zero, ne_eq,
    not_not, imp_iff_not_or, not_le]

/-- R210's decoder once the fixed fields pass, for family 0. -/
theorem decodeOpusId_plain {p : Bytes} (long : 19 ≤ p.length) (version : byteAt p 8 = 1)
    (channels : (byteAt p 9).toNat ≠ 0) (plain : (byteAt p 18).toNat = 0) :
    decodeOpusId p = if 2 < (byteAt p 9).toNat then none else some (opusIdRecord p) := by
  have streams : opusStreams p = 1 := if_pos plain
  have coupled : opusCoupled p = (byteAt p 9).toNat - 1 := if_pos plain
  have mapping : opusMapping p = [0, 1].take (byteAt p 9).toNat := if_pos plain
  unfold decodeOpusId opusIdRecord
  rw [if_neg (not_lt.mpr long), if_neg (not_not.mpr version), if_neg channels, if_pos plain, streams, coupled,
    mapping, version]
  split
  · rfl
  · next few =>
    have range : (byteAt p 9).toNat = 1 ∨ (byteAt p 9).toNat = 2 := by omega
    rcases range with one | two
    · rw [one]; rfl
    · rw [two]; rfl

/-- R210's decoder once the fixed fields pass, for the other families. -/
theorem decodeOpusId_mapped {p : Bytes} (long : 19 ≤ p.length) (version : byteAt p 8 = 1)
    (channels : (byteAt p 9).toNat ≠ 0) (mapped : (byteAt p 18).toNat ≠ 0)
    (whole : 21 + (byteAt p 9).toNat ≤ p.length) :
    decodeOpusId p = if opusMappingOk (byteAt p 18).toNat (byteAt p 9).toNat (opusStreams p) (opusCoupled p)
      (opusMapping p) = true then some (opusIdRecord p) else none := by
  have mapping : opusMapping p = slice p 21 (21 + (byteAt p 9).toNat) := by
    rw [opusMapping, if_neg mapped, slice, Nat.add_sub_cancel_left]
  have streams : opusStreams p = (byteAt p 19).toNat := if_neg mapped
  have coupled : opusCoupled p = (byteAt p 20).toNat := if_neg mapped
  unfold decodeOpusId opusIdRecord
  rw [if_neg (not_lt.mpr long), if_neg (not_not.mpr version), if_neg channels, if_neg mapped,
    if_neg (not_lt.mpr whole), streams, coupled, mapping, version]
  rfl

/-- R210's decoder refuses the bad packets. -/
theorem decodeOpusId_of_bad {p : Bytes} (bad : OpusIdBad p) : decodeOpusId p = none := by
  by_cases long : p.length < 19
  · exact if_pos long
  by_cases version : byteAt p 8 ≠ 1
  · exact (if_neg long).trans (if_pos version)
  by_cases channels : (byteAt p 9).toNat = 0
  · exact (if_neg long).trans ((if_neg version).trans (if_pos channels))
  rcases ((bad.resolve_left long).resolve_left version).resolve_left channels with ⟨plain, many⟩ | ⟨mapped, tail⟩
  · rw [decodeOpusId_plain (not_lt.mp long) (not_not.mp version) channels plain, if_pos many]
  by_cases whole : p.length < 21 + (byteAt p 9).toNat
  · exact (if_neg long).trans ((if_neg version).trans
      ((if_neg channels).trans ((if_neg mapped).trans (if_pos whole))))
  · rw [decodeOpusId_mapped (not_lt.mp long) (not_not.mp version) channels mapped (not_lt.mp whole),
      if_neg (fun ok => (opusMappingOk_iff p).mp ok (tail.resolve_left whole))]

/-- R210's decoder gives R212's record of every other packet. -/
theorem decodeOpusId_of_not_bad {p : Bytes} (good : ¬ OpusIdBad p) :
    decodeOpusId p = some (opusIdRecord p) := by
  simp only [OpusIdBad, not_or, not_and, not_lt, not_not, ne_eq] at good
  obtain ⟨long, version, channels, few, tail⟩ := good
  by_cases plain : (byteAt p 18).toNat = 0
  · rw [decodeOpusId_plain long version channels plain, if_neg (not_lt.mpr (few plain))]
  · obtain ⟨whole, mapping⟩ := tail plain
    rw [decodeOpusId_mapped long version channels plain whole, if_pos ((opusMappingOk_iff p).mpr mapping)]

/-- Settles O31: OPUS_ID does what its decoder says, and only while no header is held. -/
theorem opusIdStoresTheHeader : Obligations.OpusIdStoresTheHeader := by
  intro p s
  refine ⟨fun held => ?held, fun fresh bad => ?bad, fun fresh good => ?stored⟩
  case held =>
    rw [exec_opusId, opusIdPacket, if_pos (Option.isSome_iff_ne_none.mpr held), packetReturns_consumed]
  case bad =>
    rw [exec_opusId, opusIdPacket, fresh, decodeOpusId_of_bad bad]
    exact packetReturns_badIdHeader p s
  case stored =>
    rw [exec_opusId, opusIdPacket, fresh, decodeOpusId_of_not_bad good]
    rfl

/-! ### Opus audio packets (R214 to R217) -/

theorem toNat_extractLsb'_eq_field (x : Byte) (hi lo : Nat) :
    (x.extractLsb' lo (hi + 1 - lo)).toNat = field x hi lo := by
  rw [BitVec.extractLsb'_toNat, Nat.shiftRight_eq_div_pow, field]

/-- The three fields of a TOC byte give it back. -/
theorem toc_fields (x : Byte) :
    field x 7 3 * 8 + (bit x 2).toNat * 4 + field x 1 0 = x.toNat := by
  revert x
  decide

/-- R215's configurations are the rows of its tables. -/
theorem opusConfig_eq : ∀ n < 32, opusConfig n
    = (if n < 12 then .silk else if n < 16 then .hybrid else .celt, opusBandwidths.getD (n / 2) .fullband,
      opusFrameSizes.getD n 0) := by
  decide

/-- R215's frames last 2.5 to 60 ms. -/
theorem opusFrameSizes_bounds :
    ∀ n < 32, 120 ≤ opusFrameSizes.getD n 0 ∧ opusFrameSizes.getD n 0 ≤ 2880 := by
  decide

/-- R216's frame count by the code of the TOC byte. -/
def opusCount (p : Bytes) : Nat :=
  if field (byteAt p 0) 1 0 = 0 then 1
  else if field (byteAt p 0) 1 0 = 3 then field (byteAt p 1) 5 0 else 2

/-- The frame size R215 gives a packet's configuration. -/
def opusSize (p : Bytes) : Nat := opusFrameSizes.getD (field (byteAt p 0) 7 3) 0

theorem field_7_3_lt (x : Byte) : field x 7 3 < 32 := Nat.mod_lt _ (by decide)

theorem opusSize_bounds (p : Bytes) : 120 ≤ opusSize p ∧ opusSize p ≤ 2880 :=
  opusFrameSizes_bounds _ (field_7_3_lt _)

/-- A code-3 packet is bad when it has no count byte, no frame, or too many of them. -/
theorem opusCountBad_code3 {p : Bytes} (code : field (byteAt p 0) 1 0 = 3) : opusCountBad p = false ↔
    2 ≤ p.length ∧ 1 ≤ field (byteAt p 1) 5 0 ∧ field (byteAt p 1) 5 0 * opusSize p ≤ 5760 := by
  rw [opusCountBad, code]
  simp only [beq_self_eq_true, Bool.true_and, Bool.or_eq_false_iff, decide_eq_false_iff_not, beq_eq_false_iff_ne,
    ne_eq, not_lt, and_assoc, Nat.one_le_iff_ne_zero, opusSize]

theorem opusCountBad_other {p : Bytes} (code : field (byteAt p 0) 1 0 ≠ 3) : opusCountBad p = false := by
  simp [opusCountBad, code]

theorem opusFrameCount_code3 {p : Bytes} {size : Nat} (code : field (byteAt p 0) 1 0 = 3) :
    opusFrameCount p size = if 2 ≤ p.length ∧ 1 ≤ field (byteAt p 1) 5 0 ∧ field (byteAt p 1) 5 0 * size ≤ 5760
      then some (opusCount p) else none := by
  rw [opusFrameCount, code, opusCount, code]
  rfl

theorem opusFrameCount_other {p : Bytes} {size : Nat} (code : field (byteAt p 0) 1 0 ≠ 3) :
    opusFrameCount p size = some (opusCount p) := by
  have range : field (byteAt p 0) 1 0 < 4 := Nat.mod_lt _ (by decide)
  have below : field (byteAt p 0) 1 0 = 0 ∨ field (byteAt p 0) 1 0 = 1 ∨ field (byteAt p 0) 1 0 = 2 := by omega
  rw [opusFrameCount, opusCount]
  rcases below with zero | one | two
  · rw [zero]; rfl
  · rw [one]; rfl
  · rw [two]; rfl

/-- R216's count is missing exactly for the bad packets. -/
theorem opusFrameCount_eq (p : Bytes) :
    opusFrameCount p (opusSize p) = if opusCountBad p = true then none else some (opusCount p) := by
  by_cases code : field (byteAt p 0) 1 0 = 3
  · rw [opusFrameCount_code3 code]
    simp only [← opusCountBad_code3 code]
    cases opusCountBad p <;> rfl
  · rw [opusFrameCount_other code, opusCountBad_other code]
    rfl

/-- A decodable packet has at least one frame, and lasts at most 120 ms. -/
theorem opusSamples_bounds {p : Bytes} (good : opusCountBad p = false) :
    120 ≤ opusSize p * opusCount p ∧ opusSize p * opusCount p ≤ 5760 := by
  obtain ⟨low, high⟩ := opusSize_bounds p
  unfold opusCount
  split
  · omega
  · split
    · next code =>
      obtain ⟨-, present, few⟩ := (opusCountBad_code3 code).mp good
      exact ⟨low.trans (Nat.le_mul_of_pos_right _ present), by rwa [Nat.mul_comm]⟩
    · omega

theorem opusConfig_frameSize (p : Bytes) : (opusConfig (field (byteAt p 0) 7 3)).2.2 = opusSize p := by
  rw [opusConfig_eq _ (field_7_3_lt _), opusSize]

/-- Without an Opus identification header, or without a byte, an Opus audio packet is undecodable. -/
theorem opusAudioPacket_refused {p : Bytes} {s : State}
    (refused : (∀ i, s.idHeader ≠ some (.opus i)) ∨ p = []) : opusAudioPacket p s = badPacket p s := by
  unfold opusAudioPacket
  split
  · next i held =>
    exact if_pos (List.length_eq_zero_iff.mpr (refused.resolve_left fun other => other i held))
  · rfl

/-- The header of the frame an audio packet gives under an identification header (R214). -/
def opusFrame (i : OpusId) (p : Bytes) : OpusHeader :=
  opusRecord i (opusConfig (field (byteAt p 0) 7 3)) p (opusCount p)

/-- Under a sound cache an Opus audio packet is decoded from its own bytes, whether the lookup hits or not. -/
theorem opusAudioPacket_sound {p : Bytes} {s : State} {i : OpusId} (held : s.idHeader = some (.opus i))
    (sound : CacheSound s) (nonempty : p ≠ []) : ∃ k, opusAudioPacket p s =
      if opusCountBad p = true then badPacket p { s with lastKey := k }
      else (.frame (.opus (opusFrame i p)), { s with lastKey := k }) := by
  obtain ⟨k, look⟩ := cacheLookup_state (opusKey s p) s
  refine ⟨k, ?_⟩
  unfold opusAudioPacket
  simp only [held, if_neg (mt List.length_eq_zero_iff.mp nonempty), cachedOpus_sound p sound held, look,
    opusConfig_frameSize, opusFrameCount_eq]
  cases opusCountBad p <;> rfl

theorem opusFrame_config (i : OpusId) (p : Bytes) :
    (opusFrame i p).config.toNat = field (byteAt p 0) 7 3 :=
  toNat_extractLsb'_eq_field _ 7 3

theorem opusFrame_code (i : OpusId) (p : Bytes) : (opusFrame i p).code.toNat = field (byteAt p 0) 1 0 :=
  toNat_extractLsb'_eq_field _ 1 0

theorem opusFrame_code_eq_iff (i : OpusId) (p : Bytes) (c : BitVec 2) :
    (opusFrame i p).code = c ↔ field (byteAt p 0) 1 0 = c.toNat := by
  rw [← opusFrame_code i p, BitVec.toNat_inj]

/-- The configuration, stereo flag and code put together give the TOC byte back (R214). -/
theorem opusFrame_toc (i : OpusId) (p : Bytes) : (opusFrame i p).config.toNat * 8
    + (opusFrame i p).stereo.toNat * 4 + (opusFrame i p).code.toNat = (byteAt p 0).toNat := by
  rw [opusFrame_config, opusFrame_code]
  exact toc_fields _

/-- Mode, bandwidth and frame size are R215's for the record's configuration. -/
theorem opusFrame_row (i : OpusId) (p : Bytes) :
    ((opusFrame i p).mode, (opusFrame i p).bandwidth, (opusFrame i p).frameSize)
      = (if (opusFrame i p).config.toNat < 12 then .silk
          else if (opusFrame i p).config.toNat < 16 then .hybrid else .celt,
        opusBandwidths.getD ((opusFrame i p).config.toNat / 2) .fullband,
        opusFrameSizes.getD (opusFrame i p).config.toNat 0) := by
  rw [opusFrame_config]
  exact opusConfig_eq _ (field_7_3_lt _)

theorem opusFrame_samples (i : OpusId) (p : Bytes) :
    (opusFrame i p).samples = opusSize p * opusCount p :=
  congrArg (· * opusCount p) (opusConfig_frameSize p)

theorem opusFrame_count (i : OpusId) (p : Bytes) : (opusFrame i p).count
    = if (opusFrame i p).code = 0 then 1 else if (opusFrame i p).code = 3 then field (byteAt p 1) 5 0 else 2 := by
  simp only [opusFrame_code_eq_iff]
  rfl

/-- The two flags of the count byte are given for code 3 alone. -/
theorem opusFrame_flags (i : OpusId) (p : Bytes) :
    (opusFrame i p).vbr = (if (opusFrame i p).code = 3 then some ((byteAt p 1).getLsbD 7) else none)
      ∧ (opusFrame i p).padding = if (opusFrame i p).code = 3 then some ((byteAt p 1).getLsbD 6) else none := by
  simp only [opusFrame_code_eq_iff]
  exact ⟨rfl, rfl⟩

/-- Settles O32: the packet is refused or gives opusFrame, whose fields are R214's, R215's and R216's. -/
theorem opusAudioDecodes : Obligations.OpusAudioDecodes := by
  intro p s
  refine ⟨fun refused => ?refused, fun i held sound nonempty => ?held⟩
  case refused => rw [exec_opusToc, opusAudioPacket_refused refused, packetReturns_badPacket]
  case held =>
    obtain ⟨k, packet⟩ := opusAudioPacket_sound held sound nonempty
    refine ⟨fun bad => ⟨k, ?bad⟩, fun good => ⟨k, opusFrame i p, ?frame, ?fields⟩⟩
    case bad =>
      rw [exec_opusToc, packet, if_pos bad, packetReturns_badPacket, warn_cursor, warn_cursor]
    case frame =>
      rw [exec_opusToc, packet, if_neg (ne_true_of_eq_false good), packetReturns_eq]
    case fields =>
      obtain ⟨mode, row⟩ := Prod.mk.inj (opusFrame_row i p)
      obtain ⟨bandwidth, frameSize⟩ := Prod.mk.inj row
      obtain ⟨low, high⟩ := opusSamples_bounds good
      obtain ⟨vbr, padding⟩ := opusFrame_flags i p
      rw [← opusFrame_samples i p] at low high
      exact ⟨rfl, opusFrame_toc i p, frameSize, mode, bandwidth, opusFrame_count i p, rfl, low, high,
        rfl, rfl, rfl, rfl, vbr, padding⟩

/-! ### The Vorbis identification header (R223) -/

/-- The identification packets R223 makes Invalid. -/
def VorbisIdBad (p : Bytes) : Prop :=
  p.length < 29 ∨ le32 p 7 ≠ 0 ∨ byteAt p 11 = 0 ∨ le32 p 12 = 0
    ∨ (byteAt p 28).toNat % 16 < 6 ∨ 13 < (byteAt p 28).toNat % 16
    ∨ (byteAt p 28).toNat / 16 < 6 ∨ 13 < (byteAt p 28).toNat / 16
    ∨ (byteAt p 28).toNat / 16 < (byteAt p 28).toNat % 16

/-- R223's record of a packet. -/
def vorbisIdRecord (p : Bytes) : VorbisId where
  channels := (byteAt p 11).toNat
  sampleRate := le32 p 12
  bitrateMaximum := sext 32 (le32 p 16)
  bitrateNominal := sext 32 (le32 p 20)
  bitrateMinimum := sext 32 (le32 p 24)
  blocksize0 := 2 ^ ((byteAt p 28).toNat % 16)
  blocksize1 := 2 ^ ((byteAt p 28).toNat / 16)

theorem field_3_0 (x : Byte) : field x 3 0 = x.toNat % 16 := by
  simp [field]

theorem field_7_4 (x : Byte) : field x 7 4 = x.toNat / 16 := by
  have := x.isLt
  simp only [field]
  omega

theorem decodeVorbisId_of_bad {p : Bytes} (bad : VorbisIdBad p) : decodeVorbisId p = none := by
  unfold decodeVorbisId
  simp only [field_3_0, field_7_4]
  split
  · rfl
  next long =>
  split
  · rfl
  next version =>
  split
  · rfl
  next counts =>
  obtain ⟨channels, rate⟩ := not_or.mp counts
  exact if_pos ((((bad.resolve_left long).resolve_left version).resolve_left channels).resolve_left rate)

theorem decodeVorbisId_of_not_bad {p : Bytes} (good : ¬ VorbisIdBad p) :
    decodeVorbisId p = some (vorbisIdRecord p) := by
  obtain ⟨long, rest⟩ := not_or.mp good
  obtain ⟨version, rest⟩ := not_or.mp rest
  obtain ⟨channels, rest⟩ := not_or.mp rest
  obtain ⟨rate, exponents⟩ := not_or.mp rest
  unfold decodeVorbisId
  simp only [field_3_0, field_7_4]
  rw [if_neg long, if_neg version, if_neg (not_or.mpr ⟨channels, rate⟩), if_neg exponents]
  rfl

/-- Settles O33: VORBIS_ID does what its decoder says, and only while no header is held. -/
theorem vorbisIdStoresTheHeader : Obligations.VorbisIdStoresTheHeader := by
  intro p s
  refine ⟨fun held => ?held, fun fresh bad => ?bad, fun fresh good => ?stored⟩
  case held =>
    rw [exec_vorbisId, vorbisIdPacket, if_pos (Option.isSome_iff_ne_none.mpr held), packetReturns_consumed]
  case bad =>
    rw [exec_vorbisId, vorbisIdPacket, fresh, decodeVorbisId_of_bad bad]
    exact packetReturns_badIdHeader p s
  case stored =>
    rw [exec_vorbisId, vorbisIdPacket, fresh, decodeVorbisId_of_not_bad good]
    rfl

/-! ### Vorbis setup and audio packets (R224, R225) -/

/-- Settles O34: the first setup packet is kept, and the open parameter's count and state are taken as they come. -/
theorem vorbisSetupAndAudio : Obligations.VorbisSetupAndAudio := by
  intro p s
  refine ⟨fun fresh => ?first, fun held => ?later, fun i v held counted => ?frame, fun other => ?refused⟩
  case first =>
    rw [exec_vorbisSetup, vorbisSetupPacket, fresh]
    rfl
  case later =>
    rw [exec_vorbisSetup, vorbisSetupPacket, if_pos (Option.isSome_iff_ne_none.mpr held), packetReturns_consumed]
  case frame =>
    simp only [exec_vorbisAudio, vorbisAudioPacket, held, counted, Option.getD_some, packetReturns_eq]
  case refused =>
    rw [exec_vorbisAudio, vorbisAudioPacket]
    split
    · next i held => exact absurd held (other i)
    · exact packetReturns_badPacket p s

/-! ### STREAMINFO (R227) -/

/-- A big-endian number is the little-endian one of the bytes in reverse. -/
theorem bigEndian_eq_littleEndian_reverse (b : Bytes) : bigEndian b = littleEndian b.reverse := by
  induction b using List.reverseRecOn with
  | nil => rfl
  | append_singleton rest x ih =>
    rw [bigEndian, List.foldl_append, List.reverse_append, List.reverse_singleton, List.singleton_append,
      littleEndian, ← ih, Nat.add_comm, Nat.mul_comm]
    rfl

/-- A number read from big-endian bytes gives the bytes back. -/
theorem littleBytes_bigEndian_reverse (b : Bytes) : (littleBytes b.length (bigEndian b)).reverse = b := by
  have bytes := littleBytes_littleEndian b.reverse
  rw [List.length_reverse] at bytes
  rw [bigEndian_eq_littleEndian_reverse, bytes, List.reverse_reverse]

theorem bigEndian_lt (b : Bytes) : bigEndian b < 2 ^ (8 * b.length) := by
  rw [bigEndian_eq_littleEndian_reverse, ← List.length_reverse]
  exact littleEndian_lt _

theorem slice_append_slice (b : Bytes) {i j k : Nat} (ij : i ≤ j) (jk : j ≤ k) :
    slice b i j ++ slice b j k = slice b i k := by
  have joined := take_append_slice (b.drop i) (Nat.sub_le_sub_right jk i)
  rwa [slice, List.drop_drop, Nat.add_sub_cancel' ij, Nat.sub_sub_sub_cancel_right ij] at joined

theorem be16_bytes {b : Bytes} {i : Nat} (inside : i + 2 ≤ b.length) :
    (littleBytes 2 (be16 b i)).reverse = slice b i (i + 2) := by
  have number : be16 b i = bigEndian [byteAt b i, byteAt b (i + 1)] := by simp [be16, bigEndian]
  rw [number, ← slice_append_slice b (Nat.le_add_right i 1) (Nat.le_succ (i + 1)),
    ← singleton_byteAt (show i < b.length by omega), ← singleton_byteAt (show i + 1 < b.length by omega)]
  exact littleBytes_bigEndian_reverse [byteAt b i, byteAt b (i + 1)]

theorem be24_bytes {b : Bytes} {i : Nat} (inside : i + 3 ≤ b.length) :
    (littleBytes 3 (be24 b i)).reverse = slice b i (i + 3) := by
  have number : be24 b i = bigEndian [byteAt b i, byteAt b (i + 1), byteAt b (i + 2)] := by
    simp only [be24, bigEndian, List.foldl_cons, List.foldl_nil]
    omega
  rw [number, ← slice_append_slice b (Nat.le_add_right i 1) (show i + 1 ≤ i + 3 by omega),
    ← slice_append_slice b (Nat.le_succ (i + 1)) (Nat.le_succ (i + 2)),
    ← singleton_byteAt (show i < b.length by omega), ← singleton_byteAt (show i + 1 < b.length by omega),
    ← singleton_byteAt (show i + 2 < b.length by omega)]
  exact littleBytes_bigEndian_reverse [byteAt b i, byteAt b (i + 1), byteAt b (i + 2)]

theorem be16_lt (b : Bytes) (i : Nat) : be16 b i < 2 ^ 16 := by
  have := (byteAt b i).isLt
  have := (byteAt b (i + 1)).isLt
  unfold be16
  omega

theorem be24_lt (b : Bytes) (i : Nat) : be24 b i < 2 ^ 24 := by
  have := (byteAt b i).isLt
  have := (byteAt b (i + 1)).isLt
  have := (byteAt b (i + 2)).isLt
  unfold be24
  omega

/-- The bit fields of R227's 64-bit word, put together. -/
theorem streamInfoWord_fields (x : Nat) :
    x / 2 ^ 44 * 2 ^ 44 + (x / 2 ^ 41 % 2 ^ 3 + 1 - 1) * 2 ^ 41 + (x / 2 ^ 36 % 2 ^ 5 + 1 - 1) * 2 ^ 36 + x % 2 ^ 36
      = x := by
  omega

/-- The fields of a STREAMINFO record, put together, are the bytes it was decoded from. -/
theorem streamInfoBytes_decodeStreamInfo {b : Bytes} (long : b.length = 34) :
    streamInfoBytes (decodeStreamInfo b) = b := by
  have word := littleBytes_bigEndian_reverse (slice b 10 18)
  rw [slice_length (by omega)] at word
  simp only [streamInfoBytes, decodeStreamInfo, streamInfoWord_fields]
  rw [be16_bytes (by omega), be16_bytes (by omega), be24_bytes (by omega), be24_bytes (by omega), word,
    slice_append_slice b (by decide) (by decide), slice_append_slice b (by decide) (by decide),
    slice_append_slice b (by decide) (by decide), slice_append_slice b (by decide) (by decide),
    slice_append_slice b (by decide) (by decide), slice, List.drop_zero, List.take_of_length_le long.le]

/-- The sample rate is the upper 20 bits of a 64-bit word. -/
theorem decodeStreamInfo_sampleRate_lt {b : Bytes} (long : b.length = 34) :
    (decodeStreamInfo b).sampleRate < 2 ^ 20 := by
  have word := bigEndian_lt (slice b 10 18)
  rw [slice_length (by omega)] at word
  exact Nat.div_lt_of_lt_mul word

/-- Channels and bits per sample are one more than a three-bit and a five-bit field. -/
theorem decodeStreamInfo_channels_le (b : Bytes) : (decodeStreamInfo b).channels ≤ 8 := Nat.mod_lt _ (by decide)

theorem decodeStreamInfo_bitsPerSample_le (b : Bytes) : (decodeStreamInfo b).bitsPerSample ≤ 32 :=
  Nat.mod_lt _ (by decide)

theorem decodeOggFlacId_of_short {p : Bytes} (short : p.length < 51) : decodeOggFlacId p = none := if_pos short

theorem decodeOggFlacId_of_long {p : Bytes} (long : 51 ≤ p.length) : decodeOggFlacId p = some {
    majorVersion := (byteAt p 5).toNat, minorVersion := (byteAt p 6).toNat,
    headerPackets := be16 p 7, streamInfo := decodeStreamInfo (slice p 17 51) } :=
  if_neg (not_lt.mpr long)

/-- Settles O35: OGGFLAC_ID does what its decoder says, and only while no header is held. -/
theorem oggFlacIdStoresStreamInfo : Obligations.OggFlacIdStoresStreamInfo := by
  intro p s
  refine ⟨fun held => ?held, fun fresh short => ?bad,
    fun fresh long => ⟨decodeStreamInfo (slice p 17 51), ?stored, ?record⟩⟩
  case held =>
    rw [exec_oggflacId, oggFlacIdPacket, if_pos (Option.isSome_iff_ne_none.mpr held), packetReturns_consumed]
  case bad =>
    rw [exec_oggflacId, oggFlacIdPacket, fresh, decodeOggFlacId_of_short short]
    exact packetReturns_badIdHeader p s
  case stored =>
    rw [exec_oggflacId, oggFlacIdPacket, fresh, decodeOggFlacId_of_long long]
    rfl
  case record =>
    have bytes : (slice p 17 51).length = 34 := slice_length long
    exact ⟨streamInfoBytes_decodeStreamInfo bytes, be16_lt _ 0, be16_lt _ 2, be24_lt _ 4, be24_lt _ 7,
      decodeStreamInfo_sampleRate_lt bytes, Nat.le_add_left 1 _, decodeStreamInfo_channels_le _,
      Nat.le_add_left 1 _, decodeStreamInfo_bitsPerSample_le _, Nat.mod_lt _ (by decide),
      slice_length bytes.ge⟩

end Sys2Proof.Machine

/-! Error responses (R234 to R236, R242): what a host command that answers one has done, said once. -/

namespace Sys2Proof.Machine

set_option Elab.async false

/-- The instructions encoded on the command channel are the host commands (R56). -/
theorem hostCommand_of_encode_channel {i : Instr} (h : ∃ b, encode i = .channel b) :
    Laws.hostCommand i = true := by
  obtain ⟨b, hb⟩ := h
  cases i with
  | config | push | pull | flush | getcodec | rdreg => rfl
  | _ => cases hb

/-- The one way to each error response of a host command: CONFIG of an unsupported codec, which resets first
(R235), or a command refused for what the state or the register number is, which writes the response alone. -/
inductive ErrorAnswer (i : Instr) (s : State) : State → ErrorCode → Prop where
  | unsupported (sel : BitVec 3) (log crc : Bool) (config : i = .config sel log crc) (reserved : 4 ≤ sel.toNat) :
      ErrorAnswer i s { fullReset s with resp := some (.err .unsupported) } .unsupported
  | notConfigured (unconfigured : s.configured = false) :
      ErrorAnswer i s { s with resp := some (.err .notConfigured) } .notConfigured
  | flushing (configured : s.configured = true) (flush : s.flushing = true) :
      ErrorAnswer i s { s with resp := some (.err .flushing) } .flushing
  | badReg : ErrorAnswer i s { s with resp := some (.err .badReg) } .badReg

section
variable {s t : State} {c : ErrorCode}

/-- PULL's loop answers an event, a NEED or END, and no error (R78). -/
theorem pullLoop_not_error {turns : Nat} (hp : pullLoop turns s = .next t) : t.resp ≠ some (.err c) := by
  obtain ⟨u, -, ⟨e, rest, -, rfl⟩ | ⟨n, -, -, rfl⟩ | ⟨v, -, -, rfl⟩⟩ :=
    pullLoop_next (P := fun _ => True) (fun _ _ _ _ _ => trivial) turns s t trivial hp
  · simp
  · simp
  · simp

theorem errorAnswer_config {sel : BitVec 3} {log crc : Bool} (he : exec (.config sel log crc) s = .next t)
    (err : t.resp = some (.err c)) : ErrorAnswer (.config sel log crc) s t c := by
  change execConfig sel log crc s = .next t at he
  by_cases supported : sel.toNat < 4
  · rw [execConfig_supported s sel log crc supported] at he
    cases he
    cases err
  · have reserved := Nat.not_lt.mp supported
    rw [execConfig_unsupported s sel log crc reserved] at he
    cases he
    cases err
    exact .unsupported sel log crc rfl reserved

theorem errorAnswer_push {d : Bytes} (he : exec (.push d) s = .next t) (err : t.resp = some (.err c)) :
    ErrorAnswer (.push d) s t c := by
  change execPush d s = .next t at he
  cases conf : s.configured with
  | false =>
    rw [execPush_unconfigured d s conf] at he
    cases he
    cases err
    exact .notConfigured conf
  | true =>
    cases flush : s.flushing with
    | false =>
      rw [execPush_accepted d s conf flush] at he
      cases he
      cases err
    | true =>
      rw [execPush_flushing d s conf flush] at he
      cases he
      cases err
      exact .flushing conf flush

theorem errorAnswer_pull (he : exec .pull s = .next t) (err : t.resp = some (.err c)) :
    ErrorAnswer .pull s t c := by
  cases conf : s.configured with
  | false =>
    rw [exec_pull_unconfigured conf] at he
    cases he
    cases err
    exact .notConfigured conf
  | true =>
    rw [exec_pull conf] at he
    exact absurd err (pullLoop_not_error he)

theorem errorAnswer_flush (he : exec .flush s = .next t) (err : t.resp = some (.err c)) :
    ErrorAnswer .flush s t c := by
  change execFlush s = .next t at he
  cases conf : s.configured with
  | false =>
    rw [execFlush_unconfigured s conf] at he
    cases he
    cases err
    exact .notConfigured conf
  | true =>
    rw [execFlush_configured s conf] at he
    cases he
    cases err

theorem errorAnswer_rdreg {reg : Byte} (he : exec (.rdreg reg) s = .next t) (err : t.resp = some (.err c)) :
    ErrorAnswer (.rdreg reg) s t c := by
  change execRdreg reg s = .next t at he
  cases value : readRegister s reg.toNat with
  | some v =>
    rw [execRdreg_some s reg v value] at he
    cases he
    cases err
  | none =>
    rw [execRdreg_none s reg value] at he
    cases he
    cases err
    exact .badReg

/-- A host command answers an error in these ways alone; GETCODEC never does. -/
theorem errorAnswer_of_exec {i : Instr} (host : Laws.hostCommand i = true) (he : exec i s = .next t)
    (err : t.resp = some (.err c)) : ErrorAnswer i s t c := by
  cases i with
  | config sel log crc => exact errorAnswer_config he err
  | push d => exact errorAnswer_push he err
  | pull => exact errorAnswer_pull he err
  | flush => exact errorAnswer_flush he err
  | getcodec => cases he; cases err
  | rdreg reg => exact errorAnswer_rdreg he err
  | _ => cases host

end

/-- Settles O14: each way to an error response shows its own condition. -/
theorem errorResponsesChangeNothing : Obligations.ErrorResponsesChangeNothing := by
  intro i s t c channel he err
  cases errorAnswer_of_exec (hostCommand_of_encode_channel channel) he err with
  | unsupported sel log crc config reserved =>
    exact ⟨fun no => absurd rfl no, nofun, nofun, fun _ => ⟨sel, log, crc, config, reserved⟩⟩
  | notConfigured unconfigured => exact ⟨fun _ => rfl, fun _ => unconfigured, nofun, nofun⟩
  | flushing configured flush => exact ⟨fun _ => rfl, nofun, fun _ => ⟨configured, flush⟩, nofun⟩
  | badReg => exact ⟨fun _ => rfl, nofun, nofun, nofun⟩

end Sys2Proof.Machine

/-! The most a suspended micro-step holds and asks for (R256): a unit's length and the header behind it, for each
format. -/

namespace Sys2Proof.Machine

set_option Elab.async false

/-! ### The longest header and the longest unit of each format -/

/-- The most bytes a REQUIRE of the selected fixed-length format's decoder covers (R100, R112, R188). -/
def headerMost (s : State) : Nat :=
  if s.codecSel.toNat = 0 then 4 else if s.codecSel.toNat = 1 then 9 else 282

/-- The longest unit of the selected fixed-length format (R108, R115, R190). -/
def unitMost (s : State) : Nat :=
  if s.codecSel.toNat = 0 then 2881 else if s.codecSel.toNat = 1 then 8191 else 65307

theorem Relooked.headerMost_eq {s u : State} (look : Relooked s u) : headerMost u = headerMost s := by
  obtain ⟨k, rfl⟩ := look
  rfl

theorem decodeMpeg_need_le {b : Bytes} {s : State} {k : Nat} (need : (decodeMpeg b s).1 = .need k) : k ≤ 4 := by
  unfold decodeMpeg at need
  split at need
  · cases need
    exact le_rfl
  simp only at need
  split at need
  · cases need
  split at need <;> cases need

theorem decodeAdts_need_le {b : Bytes} {s : State} {k : Nat} (need : (decodeAdts b s).1 = .need k) : k ≤ 9 := by
  have header : ∀ absent, adtsHeaderLength absent ≤ 9 := by decide
  unfold decodeAdts at need
  split at need
  · cases need
    decide
  simp only at need
  split at need
  · cases need
  split at need
  · cases need
  split at need <;> cases need
  exact header _

theorem decodeOggPage_need_le {b : Bytes} {k : Nat} (need : decodeOggPage b = .need k) : k ≤ 282 := by
  have segments : (byteAt b 26).toNat < 2 ^ 8 := (byteAt b 26).isLt
  unfold decodeOggPage at need
  simp only at need
  split_ifs at need <;> cases need
  · decide
  · omega

theorem decodeAt_need_le {off k : Nat} {s : State} (need : (decodeAt off s).1 = .need k) : k ≤ headerMost s := by
  by_cases mpeg : s.codecSel.toNat = 0
  · rw [decodeAt_of_mpeg off mpeg] at need
    rw [headerMost, if_pos mpeg]
    exact decodeMpeg_need_le (mapResult_eq_need.mp need)
  by_cases adts : s.codecSel.toNat = 1
  · rw [decodeAt_of_adts off adts] at need
    rw [headerMost, if_neg mpeg, if_pos adts]
    exact decodeAdts_need_le (mapResult_eq_need.mp need)
  · rw [decodeAt_of_page off mpeg adts] at need
    rw [headerMost, if_neg mpeg, if_neg adts]
    exact decodeOggPage_need_le (mapResult_eq_need.mp need)

/-- The lowest of a version's sample rates (R104). -/
def mpegLowestRate : MpegVersion → Nat
  | .mpeg1 => 32000
  | .mpeg2 => 16000
  | .mpeg25 => 8000

theorem mpegLowestRate_le {v : MpegVersion} {index rate : Nat} (h : mpegSampleRate v index = some rate) :
    0 < mpegLowestRate v ∧ mpegLowestRate v ≤ rate := by
  cases v with
  | mpeg1 =>
    have all : ∀ x ∈ [44100, 48000, 32000], 32000 ≤ x := by decide
    exact ⟨by decide, all rate (List.mem_of_getElem? h)⟩
  | mpeg2 =>
    have all : ∀ x ∈ [22050, 24000, 16000], 16000 ≤ x := by decide
    exact ⟨by decide, all rate (List.mem_of_getElem? h)⟩
  | mpeg25 =>
    have all : ∀ x ∈ [11025, 12000, 8000], 8000 ≤ x := by decide
    exact ⟨by decide, all rate (List.mem_of_getElem? h)⟩

/-- At its lowest sample rate no column of R103's table fills more than 2,881 bytes with the padding slot. -/
theorem mpegBitrate_fill {v : MpegVersion} {l : MpegLayer} {index bitrate : Nat}
    (h : mpegBitrate v l index = some bitrate) :
    125 * bitrate * mpegSamples v l ≤ (2881 - mpegPaddingBytes l true) * mpegLowestRate v := by
  have column : ∀ x ∈ bitrateColumn v l,
      125 * x * mpegSamples v l ≤ (2881 - mpegPaddingBytes l true) * mpegLowestRate v := by
    cases v <;> cases l <;> decide
  unfold mpegBitrate at h
  split at h
  · cases h
  · exact column bitrate (List.mem_of_getElem? h)

theorem mpegPaddingBytes_le (l : MpegLayer) (padding : Bool) :
    mpegPaddingBytes l padding ≤ mpegPaddingBytes l true ∧ mpegPaddingBytes l true ≤ 4 := by
  cases l <;> cases padding <;> decide

theorem mpegFrameLength_le {v : MpegVersion} {l : MpegLayer} {i j bitrate rate : Nat} (padding : Bool)
    (hb : mpegBitrate v l i = some bitrate) (hr : mpegSampleRate v j = some rate) :
    mpegFrameLength bitrate (mpegSamples v l) rate (mpegPaddingBytes l padding) ≤ 2881 := by
  obtain ⟨positive, lowest⟩ := mpegLowestRate_le hr
  obtain ⟨slot, small⟩ := mpegPaddingBytes_le l padding
  have quotient : 125 * bitrate * mpegSamples v l / rate ≤ 2881 - mpegPaddingBytes l true :=
    calc 125 * bitrate * mpegSamples v l / rate
        ≤ 125 * bitrate * mpegSamples v l / mpegLowestRate v := Nat.div_le_div_left lowest positive
      _ ≤ 2881 - mpegPaddingBytes l true := Nat.div_le_of_le_mul ((mpegBitrate_fill hb).trans_eq (Nat.mul_comm _ _))
  unfold mpegFrameLength
  omega

theorem mpegFields_frameLength_le {b : Bytes} {h : MpegHeader} (fields : mpegFields b = some h) :
    h.frameLength ≤ 2881 := by
  unfold mpegFields at fields
  simp only at fields
  split at fields
  · split at fields
    · split at fields
      · next hb hr _ =>
        split at fields
        · cases fields
        · cases fields
          exact mpegFrameLength_le _ hb hr
      · cases fields
    · cases fields
  · cases fields

/-- Thirteen bits (R115). -/
theorem adtsFrameLength_le (b : Bytes) : adtsFrameLength b ≤ 8191 := by
  have := (byteAt b 4).isLt
  simp only [adtsFrameLength, field]
  omega

theorem unitLength_decodeAt_le {off : Nat} {s : State} {u : UnitHeader} (sound : CacheSound s)
    (parsed : (decodeAt off s).1 = .parsed u) : unitLength u ≤ unitMost s := by
  by_cases mpeg : s.codecSel.toNat = 0
  · rw [decodeAt_of_mpeg off mpeg] at parsed
    obtain ⟨m, hm, rfl⟩ := mapResult_eq_parsed.mp parsed
    rw [unitMost, if_pos mpeg]
    exact mpegFields_frameLength_le (decodeMpeg_parsed sound hm).2
  by_cases adts : s.codecSel.toNat = 1
  · rw [decodeAt_of_adts off adts] at parsed
    obtain ⟨a, ha, rfl⟩ := mapResult_eq_parsed.mp parsed
    obtain ⟨f, -, rfl, -⟩ := decodeAdts_parsed sound ha
    rw [unitMost, if_neg mpeg, if_pos adts]
    exact adtsFrameLength_le _
  · rw [decodeAt_of_page off mpeg adts] at parsed
    obtain ⟨p, hp, rfl⟩ := mapResult_eq_parsed.mp parsed
    rw [decodeOggPage_parsed _ _ hp, unitMost, if_neg mpeg, if_neg adts]
    exact oggPageRecord_pageLength_le _

/-! ### What a suspended part holds and asks for -/

/-- A decoder's unsatisfied REQUIRE of k bytes at an offset ends k bytes behind it. -/
theorem orSuspend_total {α : Type} {off n : Nat} {a : DecodeResult α × State}
    (more : ∀ k, a.1 = .need k → (a.2.buf.drop off).length < k) (h : orSuspend off a = .suspend n) :
    ∃ k, a.1 = .need k ∧ a.2.buf.length + n = off + k := by
  rcases orSuspend_cases off a with ⟨e, -⟩ | ⟨k, need, -, e⟩
  · rw [e] at h
    cases h
  · have short := more k need
    rw [List.length_drop] at short
    rw [e] at h
    cases h
    exact ⟨k, need, by omega⟩

theorem decodeAt_total_le {off n : Nat} {s : State} (h : orSuspend off (decodeAt off s) = .suspend n) :
    s.buf.length + n ≤ off + headerMost s := by
  have buf : (decodeAt off s).2.buf = s.buf := (Relooked.sameInput (decodeAt_state off s)).buf
  obtain ⟨k, need, total⟩ := orSuspend_total (fun k need => by rw [buf]; exact decodeAt_need need) h
  rw [buf] at total
  have := decodeAt_need_le need
  omega

theorem decodeFlac_total_le {off n : Nat} {s : State}
    (h : orSuspend off (decodeFlac (s.buf.drop off) none s) = .suspend n) : s.buf.length + n ≤ off + 16 := by
  have buf := (SameInput.decodeFlac (s.buf.drop off) none s).buf
  obtain ⟨k, need, total⟩ := orSuspend_total (fun k need => by rw [buf]; exact decodeFlac_need need) h
  rw [buf] at total
  have := (decodeFlac_bounds _ _ _).1 k need
  omega

theorem confirmUnit_total_le {s : State} {u : UnitHeader} {n : Nat} (h : confirmUnit u s = .suspend n) :
    s.buf.length + n ≤ unitLength u + headerMost s := by
  unfold confirmUnit at h
  split at h
  · next e =>
    cases h
    exact decodeAt_total_le e
  · split at h <;> cases h
  · cases h
  · cases h

theorem syncedUnit_total {s : State} {u : UnitHeader} {n : Nat} (h : syncedUnit u s = .suspend n) :
    s.buf.length + n = unitLength u := by
  unfold syncedUnit at h
  split at h
  · next short =>
    split at h <;> cases h
    omega
  · cases h

theorem fixedStep_total_le {s : State} {n : Nat} (sound : CacheSound s) (h : fixedStep s = .suspend n) :
    s.buf.length + n ≤ unitMost s + headerMost s := by
  unfold fixedStep at h
  split at h
  · next e =>
    cases h
    have := decodeAt_total_le e
    omega
  · next u v e =>
    have look := relooked_of_decodeAt e
    have buf := look.sameInput.buf
    have unit := unitLength_decodeAt_le sound (orSuspend_decodeAt _ _ _ _ e).1.symm
    split at h
    · have total := confirmUnit_total_le h
      rw [buf, look.headerMost_eq] at total
      omega
    · have total := syncedUnit_total h
      rw [buf] at total
      omega
  · split at h <;> cases h

theorem flacScanFrom_total_le {tries p n : Nat} {s : State}
    (h : flacScanFrom tries p (s.buf.drop p) s = .suspend n) : s.buf.length + n < p + tries + 16 := by
  induction tries generalizing p s with
  | zero => cases h
  | succ m ih =>
    have later : ∀ {t}, Relooked s t → flacScanFrom m (p + 1) (s.buf.drop p).tail t = .suspend n →
        s.buf.length + n < p + (m + 1) + 16 := by
      intro t look h'
      rw [List.tail_drop, ← look.sameInput.buf] at h'
      have total := ih h'
      rw [look.sameInput.buf] at total
      omega
    unfold flacScanFrom at h
    split at h
    · cases h
    split at h
    · cases h
    split at h
    · next short =>
      split at h
      · exact later (.refl s) h
      · cases h
        omega
    split at h
    · exact later (.refl s) h
    split at h
    · exact later (.refl s) h
    split at h
    · next e =>
      cases h
      have := decodeFlac_total_le e
      omega
    · cases h
    · cases h
    · next e => exact later (relooked_of_decodeFlac e) h

theorem flacScan_total_le {s : State} {h : FlacHeader} {n : Nat} (scan : flacScan h s = .suspend n) :
    s.buf.length + n ≤ Config.maxFlacFrame + 16 := by
  have total := flacScanFrom_total_le scan
  by_cases few : h.headerLength + Config.minFlacFrame ≤ Config.maxFlacFrame + 1
  · omega
  · rw [flacScan, Nat.sub_eq_zero_of_le (by omega)] at scan
    cases scan

theorem flacStep_total_le {s : State} {n : Nat} (h : flacStep s = .suspend n) :
    s.buf.length + n ≤ Config.maxFlacFrame + 16 := by
  unfold flacStep at h
  split at h
  · next e =>
    cases h
    have := decodeFlac_total_le (off := 0) e
    omega
  · next e =>
    split at h
    · next scan =>
      cases h
      rw [← (relooked_of_decodeFlac e).sameInput.buf]
      exact flacScan_total_le scan
    · cases h
    · cases h
  · split at h <;> cases h

/-! ### The bound of each format -/

/-- A unit and a header of the selected format (R256). -/
def formatMost (s : State) : Nat :=
  if s.codecSel = 2 then Config.maxFlacFrame + 16 else unitMost s + headerMost s

theorem formatMost_le (s : State) : formatMost s ≤ 524304 := by
  unfold formatMost unitMost headerMost
  split_ifs <;> decide

/-- A suspended micro-step holds and asks for a unit and a header at most (R256). -/
theorem microStep_total_le {s : State} {n : Nat} (sound : CacheSound s) (h : microStep s = .suspend n) :
    s.buf.length + n ≤ formatMost s := by
  unfold formatMost
  unfold microStep at h
  split at h
  · cases h
  · split at h
    · next native => rw [if_pos native]; exact flacStep_total_le h
    · next notFlac => rw [if_neg notFlac]; exact fixedStep_total_le sound h

theorem bufCap_ge {s : State} (inv : HostInv s) : 1048576 ≤ s.par.bufCap := by
  obtain ⟨-, legal, -⟩ := inv
  simp only [Config.Legal, Bool.and_eq_true, decide_eq_true_eq] at legal
  exact legal.1.1

/-- Settles O58: each format's bound is below 524,304 bytes, and that below BUF_CAP. -/
theorem suspensionBufferBound : Obligations.SuspensionBufferBound := by
  intro s n inv sound suspended
  have asks := (microStep_suspend suspended).2
  have room := bufCap_ge inv
  have total := microStep_total_le sound suspended
  have format : s.buf.length + n ≤ 524304 := total.trans (formatMost_le s)
  refine ⟨asks, by omega, fun mpeg => ?_, fun adts => ?_, fun _ => format, fun ogg => ?_, by omega⟩
  · simpa [formatMost, unitMost, headerMost, mpeg] using total
  · simpa [formatMost, unitMost, headerMost, adts] using total
  · simpa [formatMost, unitMost, headerMost, ogg] using total

end Sys2Proof.Machine

/-! Command words and requests: the decoder and the encoder are inverse to each other (R56 to R60, R62, R71). -/

namespace Sys2Proof.Machine

set_option Elab.async false

/-! ### The four bytes of a command word (log entry 1) -/

theorem commandWord_bytes (w : Word32) :
    commandWord (w.extractLsb' 24 8) (w.extractLsb' 16 8) (w.extractLsb' 8 8) (w.extractLsb' 0 8) = w := by
  unfold commandWord
  rw [BitVec.extractLsb'_append_extractLsb'_eq_extractLsb' (by decide),
    BitVec.extractLsb'_append_extractLsb'_eq_extractLsb' (by decide),
    BitVec.extractLsb'_append_extractLsb'_eq_extractLsb' (by decide)]
  exact BitVec.extractLsb'_eq_self

theorem toNat_append_byte {w : Nat} (a : BitVec w) (b : Byte) : (a ++ b).toNat = a.toNat * 2 ^ 8 + b.toNat := by
  rw [BitVec.toNat_append, ← Nat.shiftLeft_add_eq_or_of_lt b.isLt, Nat.shiftLeft_eq]

theorem wordBytes_commandWord (b0 b1 b2 b3 : Byte) :
    wordBytes (commandWord b0 b1 b2 b3) = [b0, b1, b2, b3] := by
  have toNat : (commandWord b0 b1 b2 b3).toNat
      = ((b0.toNat * 2 ^ 8 + b1.toNat) * 2 ^ 8 + b2.toNat) * 2 ^ 8 + b3.toNat := by
    rw [commandWord, toNat_append_byte, toNat_append_byte, toNat_append_byte]
  have byte : ∀ (i : Nat) (b : Byte), (commandWord b0 b1 b2 b3).toNat / 2 ^ i % 2 ^ 8 = b.toNat →
      (commandWord b0 b1 b2 b3).extractLsb' i 8 = b := by
    intro i b h
    apply BitVec.eq_of_toNat_eq
    rw [BitVec.extractLsb'_toNat, Nat.shiftRight_eq_div_pow, h]
  rw [wordBytes, byte 24 b0 (by omega), byte 16 b1 (by omega), byte 8 b2 (by omega), byte 0 b3 (by omega)]

section
variable {w : Word32}

theorem decodeChannel_whole {i : Instr} (h : decodeCommandWord w = .whole i) (rest : Bytes) :
    decodeChannel (wordBytes w ++ rest) = .command i rest := by
  simp only [wordBytes, List.cons_append, List.nil_append, decodeChannel, commandWord_bytes, h]

theorem decodeChannel_pushOf (d : Bytes) (h : decodeCommandWord w = .pushOf d.length) (rest : Bytes) :
    decodeChannel (wordBytes w ++ d ++ rest) = .command (.push d) rest := by
  have enough : d.length ≤ (d ++ rest).length := by simp
  simp only [wordBytes, List.cons_append, List.nil_append, decodeChannel, commandWord_bytes, h, if_pos enough,
    List.take_left, List.drop_left]

theorem decodeChannel_illegal {e : DecodeError} (h : decodeCommandWord w = .illegal e) (rest : Bytes) :
    decodeChannel (wordBytes w ++ rest) = .illegal e rest := by
  simp only [wordBytes, List.cons_append, List.nil_append, decodeChannel, commandWord_bytes, h]

/-! ### A field that must be zero (R60) -/

theorem zeroOperand_eq_whole_iff {width : Nat} {i j : Instr} :
    zeroOperand w width i = .whole j ↔ w.toNat % 2 ^ 28 < 2 ^ width ∧ i = j := by
  have fits : w.toNat % 2 ^ 28 / 2 ^ width = 0 ↔ w.toNat % 2 ^ 28 < 2 ^ width :=
    Nat.div_eq_zero_iff_lt (Nat.two_pow_pos width)
  unfold zeroOperand
  split
  · next zero => rw [WordCommand.whole.injEq, and_iff_right (fits.mp zero)]
  · next nonzero => exact iff_of_false nofun fun h => nonzero (fits.mpr h.1)

theorem zeroOperand_illegal_iff {width : Nat} {i : Instr} :
    (∃ e, zeroOperand w width i = .illegal e) ↔ 2 ^ width ≤ w.toNat % 2 ^ 28 := by
  have fits : w.toNat % 2 ^ 28 / 2 ^ width = 0 ↔ w.toNat % 2 ^ 28 < 2 ^ width :=
    Nat.div_eq_zero_iff_lt (Nat.two_pow_pos width)
  unfold zeroOperand
  split
  · next zero => simpa using fits.mp zero
  · next nonzero => simpa using mt fits.mpr nonzero

/-- A word is rejected exactly by its opcode or by its operand (R60). -/
theorem decodeCommandWord_illegal_iff : (∃ e, decodeCommandWord w = .illegal e) ↔ illegalWord w := by
  unfold decodeCommandWord illegalWord
  simp only
  split
  case h_1 op => rw [zeroOperand_illegal_iff]; omega
  case h_2 op => exact iff_of_false nofun (by omega)
  case h_3 op => rw [zeroOperand_illegal_iff]; omega
  case h_4 op => rw [zeroOperand_illegal_iff]; omega
  case h_5 op => rw [zeroOperand_illegal_iff]; omega
  case h_6 op => rw [zeroOperand_illegal_iff]; omega
  case h_7 h1 h2 h3 h4 h5 h6 =>
    rw [imp_false] at h1 h2 h3 h4 h5 h6
    exact iff_of_true ⟨_, rfl⟩ (by omega)

/-- Settles O2. -/
theorem illegalWordIsBadCommand : Obligations.IllegalWordIsBadCommand := by
  refine ⟨fun w => decodeCommandWord_illegal_iff, fun s w tail noRequest channel illegal => ?_⟩
  obtain ⟨e, he⟩ := decodeCommandWord_illegal_iff.mpr illegal
  exact step_of_illegal noRequest (channel ▸ decodeChannel_illegal he tail)

/-! ### Command words from opcode and operand (R56) -/

theorem opWord_toNat {op v : Nat} (hop : op < 16) (hv : v < 2 ^ 28) :
    (opWord op v).toNat / 2 ^ 28 = op ∧ (opWord op v).toNat % 2 ^ 28 = v := by
  rw [opWord, BitVec.toNat_ofNat, Nat.mod_eq_of_lt (by omega)]
  omega

theorem opWord_of_fields {op v : Nat} (hop : w.toNat / 2 ^ 28 = op) (hv : w.toNat % 2 ^ 28 = v) :
    opWord op v = w := by
  have split : op * 2 ^ 28 + v = w.toNat := by omega
  rw [opWord, split, BitVec.ofNat_toNat, BitVec.setWidth_eq]

theorem decodeCommandWord_config (sel : BitVec 3) (log crc : Bool) :
    decodeCommandWord (opWord 1 (sel.toNat + log.toNat * 2 ^ 3 + crc.toNat * 2 ^ 4))
      = .whole (.config sel log crc) := by
  revert sel log crc
  decide

theorem decodeCommandWord_push {n : Nat} (h : n < 2 ^ 28) : decodeCommandWord (opWord 2 n) = .pushOf n := by
  obtain ⟨op, operand⟩ := opWord_toNat (op := 2) (by decide) h
  simp only [decodeCommandWord, op, operand]

theorem decodeCommandWord_rdreg (reg : Byte) : decodeCommandWord (opWord 6 reg.toNat) = .whole (.rdreg reg) := by
  have small : reg.toNat < 2 ^ 8 := reg.isLt
  obtain ⟨op, operand⟩ := opWord_toNat (op := 6) (v := reg.toNat) (by decide) (by omega)
  have low : (opWord 6 reg.toNat).extractLsb' 0 8 = reg := by
    apply BitVec.eq_of_toNat_eq
    rw [BitVec.extractLsb'_toNat, Nat.shiftRight_zero]
    omega
  simp only [decodeCommandWord, op, low]
  exact zeroOperand_eq_whole_iff.mpr ⟨by omega, rfl⟩

/-- The three bits and two flags of CONFIG make up its operand (R76). -/
theorem config_operand (h : w.toNat % 2 ^ 28 < 2 ^ 5) :
    (w.extractLsb' 0 3).toNat + (w.getLsbD 3).toNat * 2 ^ 3 + (w.getLsbD 4).toNat * 2 ^ 4
      = w.toNat % 2 ^ 28 := by
  simp only [BitVec.extractLsb'_toNat, Nat.shiftRight_zero, BitVec.getLsbD, Nat.toNat_testBit]
  omega

theorem rdreg_operand (h : w.toNat % 2 ^ 28 < 2 ^ 8) : (w.extractLsb' 0 8).toNat = w.toNat % 2 ^ 28 := by
  rw [BitVec.extractLsb'_toNat, Nat.shiftRight_zero]
  omega

/-- A whole command word is the encoding of its command: no bit of it is ignored. -/
theorem encode_of_whole {i : Instr} (h : decodeCommandWord w = .whole i) :
    i.wellFormed = true ∧ encode i = .channel (wordBytes w) := by
  have word : ∀ {op v : Nat}, w.toNat / 2 ^ 28 = op → v = w.toNat % 2 ^ 28 →
      Encoded.channel (wordBytes (opWord op v)) = .channel (wordBytes w) :=
    fun hop hv => by rw [opWord_of_fields hop hv.symm]
  unfold decodeCommandWord at h
  split at h
  case h_1 op =>
    obtain ⟨small, rfl⟩ := zeroOperand_eq_whole_iff.mp h
    exact ⟨rfl, word op (config_operand small)⟩
  case h_2 => cases h
  case h_3 op =>
    obtain ⟨small, rfl⟩ := zeroOperand_eq_whole_iff.mp h
    exact ⟨rfl, word op (by omega)⟩
  case h_4 op =>
    obtain ⟨small, rfl⟩ := zeroOperand_eq_whole_iff.mp h
    exact ⟨rfl, word op (by omega)⟩
  case h_5 op =>
    obtain ⟨small, rfl⟩ := zeroOperand_eq_whole_iff.mp h
    exact ⟨rfl, word op (by omega)⟩
  case h_6 op =>
    obtain ⟨small, rfl⟩ := zeroOperand_eq_whole_iff.mp h
    exact ⟨rfl, word op (rdreg_operand small)⟩
  case h_7 => cases h

theorem opWord_of_pushOf {n : Nat} (h : decodeCommandWord w = .pushOf n) : n < 2 ^ 28 ∧ opWord 2 n = w := by
  have notPush : ∀ {width : Nat} {j : Instr}, zeroOperand w width j ≠ .pushOf n := by
    intro width j e
    unfold zeroOperand at e
    split at e <;> cases e
  unfold decodeCommandWord at h
  split at h
  case h_2 op =>
    cases h
    exact ⟨Nat.mod_lt _ (by decide), opWord_of_fields op rfl⟩
  case h_7 => cases h
  all_goals exact absurd h notPush

end

/-! ### The command channel -/

/-- A host command's encoding decodes with any bytes behind it (R56, R58). -/
theorem decodeChannel_encode {i : Instr} {b : Bytes} (wf : i.wellFormed = true) (h : encode i = .channel b)
    (tail : Bytes) : decodeChannel (b ++ tail) = .command i tail := by
  cases i with
  | config sel log crc => cases h; exact decodeChannel_whole (decodeCommandWord_config sel log crc) tail
  | push d =>
    cases h
    exact decodeChannel_pushOf d (decodeCommandWord_push (of_decide_eq_true wf)) tail
  | pull => cases h; exact decodeChannel_whole (by decide) tail
  | flush => cases h; exact decodeChannel_whole (by decide) tail
  | getcodec => cases h; exact decodeChannel_whole (by decide) tail
  | rdreg reg => cases h; exact decodeChannel_whole (decodeCommandWord_rdreg reg) tail
  | _ => cases h

/-- A command on the channel stands there as its own encoding, its rest behind it. -/
theorem encode_of_decodeChannel {b rest : Bytes} {i : Instr} (h : decodeChannel b = .command i rest) :
    i.wellFormed = true ∧ ∃ e, encode i = .channel e ∧ b = e ++ rest := by
  unfold decodeChannel at h
  split at h
  case h_1 b0 b1 b2 b3 tail =>
    have bytes : b0 :: b1 :: b2 :: b3 :: tail = wordBytes (commandWord b0 b1 b2 b3) ++ tail := by
      rw [wordBytes_commandWord]
      rfl
    rw [bytes]
    split at h
    · next whole =>
      cases h
      obtain ⟨wf, encoded⟩ := encode_of_whole whole
      exact ⟨wf, _, encoded, rfl⟩
    · next n push =>
      split at h
      · next enough =>
        cases h
        obtain ⟨small, word⟩ := opWord_of_pushOf push
        have count : (tail.take n).length = n := List.length_take_of_le enough
        refine ⟨decide_eq_true (by rw [count]; exact small), _, rfl, ?_⟩
        rw [count, word, List.append_assoc, List.take_append_drop]
      · cases h
    · cases h
  case h_2 => cases h

/-! ### The unit ports (R62, R65, R71) -/

theorem whenPattern_eq_ok {found : Bool} {port : Port} {i j : Instr} :
    whenPattern found port i = .ok j ↔ found = true ∧ i = j := by
  unfold whenPattern
  cases found <;> simp

/-- Of two different signatures of one length a packet shows at most one. -/
theorem not_isPrefixOf_of_ne {a b p : Bytes} (len : a.length = b.length) (ne : a ≠ b)
    (found : a.isPrefixOf p = true) : ¬b.isPrefixOf p = true := by
  intro found'
  exact ne ((List.prefix_of_prefix_length_le (List.isPrefixOf_iff_prefix.mp found)
    (List.isPrefixOf_iff_prefix.mp found') len.le).eq_of_length len)

/-- An even first byte is no Vorbis header's (R221, R222). -/
theorem not_vorbis_isPrefixOf_of_even {type : Byte} {p : Bytes} (odd : bit type 0 = true)
    (even : p.getD 0 0 &&& 1 = 0) : ¬(Pattern.vorbis type).isPrefixOf p = true := by
  intro found
  have first := (odd_of_vorbis_signature odd found).2
  rw [bit_zero_of_even (byteAt p 0) even] at first
  cases first

/-- A unit request encoded from a well-formed instruction decodes to it (R62, R65, R71). -/
theorem decodeUnit_encode {i : Instr} {r : UnitRequest} (wf : i.wellFormed = true) (h : encode i = .unit r) :
    decodeUnit r = .ok i := by
  cases i with
  | config | push | pull | flush | getcodec | rdreg => cases h
  | mpegHdr | adtsHdr | flacHdr | oggPage | oggflacId => cases h; exact whenPattern_eq_ok.mpr ⟨wf, rfl⟩
  | opusId p => cases h; exact congrArg Except.ok (if_pos wf)
  | opusTags p =>
    cases h
    have noHead := not_isPrefixOf_of_ne (a := Pattern.opusTags) (b := Pattern.opusHead) rfl (by decide) wf
    exact congrArg Except.ok ((if_neg noHead).trans (if_pos wf))
  | opusToc p =>
    cases h
    simp only [Instr.wellFormed, Bool.and_eq_true, Bool.not_eq_true'] at wf
    exact congrArg Except.ok ((if_neg (by simp [wf.1])).trans (if_neg (by simp [wf.2])))
  | vorbisId p => cases h; exact if_pos wf
  | vorbisComment p =>
    cases h
    have noId := not_isPrefixOf_of_ne (a := Pattern.vorbis 3) (b := Pattern.vorbis 1) rfl (by decide) wf
    exact (if_neg noId).trans (if_pos wf)
  | vorbisSetup p =>
    cases h
    have noId := not_isPrefixOf_of_ne (a := Pattern.vorbis 5) (b := Pattern.vorbis 1) rfl (by decide) wf
    have noComment := not_isPrefixOf_of_ne (a := Pattern.vorbis 5) (b := Pattern.vorbis 3) rfl (by decide) wf
    exact (if_neg noId).trans ((if_neg noComment).trans (if_pos wf))
  | vorbisAudio p =>
    cases h
    have even : p.getD 0 0 &&& 1 = 0 := by
      simp only [Instr.wellFormed, Bool.and_eq_true, beq_iff_eq] at wf
      exact wf.2
    exact (if_neg (not_vorbis_isPrefixOf_of_even (by decide) even)).trans
      ((if_neg (not_vorbis_isPrefixOf_of_even (by decide) even)).trans
        ((if_neg (not_vorbis_isPrefixOf_of_even (by decide) even)).trans (whenPattern_eq_ok.mpr ⟨wf, rfl⟩)))
  | skeletonFishead p => cases h; exact if_pos wf
  | skeletonFisbone p =>
    cases h
    have noHead := not_isPrefixOf_of_ne (a := Pattern.fisbone) (b := Pattern.fishead) rfl (by decide) wf
    exact (if_neg noHead).trans (if_pos wf)
  | skeletonIndex p =>
    cases h
    have noHead := not_isPrefixOf_of_ne (a := Pattern.index) (b := Pattern.fishead) rfl (by decide) wf
    have noBone := not_isPrefixOf_of_ne (a := Pattern.index) (b := Pattern.fisbone) rfl (by decide) wf
    exact (if_neg noHead).trans ((if_neg noBone).trans
      (whenPattern_eq_ok.mpr ⟨wf, rfl⟩))
  | _ => cases h; rfl

/-- What an instruction is as the answer to a request: well-formed, and encoded on the request's port with its
bytes. -/
def RequestOf (port : Port) (bytes : Bytes) (i : Instr) : Prop :=
  i.wellFormed = true ∧ ∃ q, encode i = .unit q ∧ q.port = port ∧ q.bytes = bytes

theorem RequestOf.plain {port : Port} {b : Bytes} {i : Instr} (wf : i.wellFormed = true)
    (h : encode i = plainRequest port b) : RequestOf port b i :=
  ⟨wf, _, h, rfl, rfl⟩

theorem RequestOf.engine {sel code : Byte} {a : EngineArgs} {i : Instr} (wf : i.wellFormed = true)
    (h : encode i = engineRequest code a) (num : sel.toNat = code.toNat) : RequestOf .engine [sel] i :=
  ⟨wf, _, h, rfl, by rw [BitVec.eq_of_toNat_eq num]⟩

theorem requestOf_decodeOpusPacket (p : Bytes) : RequestOf .opus p (decodeOpusPacket p) := by
  unfold decodeOpusPacket
  split
  · next head => exact .plain head rfl
  split
  · next tags => exact .plain tags rfl
  · next head tags => exact .plain (by simp [Instr.wellFormed, head, tags]) rfl

theorem requestOf_decodeVorbisPacket {p : Bytes} {i : Instr} (h : decodeVorbisPacket p = .ok i) :
    RequestOf .vorbis p i := by
  unfold decodeVorbisPacket at h
  split at h
  · next found => cases h; exact .plain found rfl
  split at h
  · next found => cases h; exact .plain found rfl
  split at h
  · next found => cases h; exact .plain found rfl
  · obtain ⟨audio, rfl⟩ := whenPattern_eq_ok.mp h
    exact .plain audio rfl

theorem requestOf_decodeSkeletonPacket {p : Bytes} {i : Instr} (h : decodeSkeletonPacket p = .ok i) :
    RequestOf .skeleton p i := by
  unfold decodeSkeletonPacket at h
  split at h
  · next found => cases h; exact .plain found rfl
  split at h
  · next found => cases h; exact .plain found rfl
  · obtain ⟨found, rfl⟩ := whenPattern_eq_ok.mp h
    exact .plain found rfl

theorem requestOf_decodeEngine {sel : Byte} {a : EngineArgs} {i : Instr} (h : decodeEngine sel a = .ok i) :
    RequestOf .engine [sel] i := by
  unfold decodeEngine at h
  split at h <;> cases h
  all_goals next code => exact .engine rfl rfl code

theorem requestOf_decodeUnit {r : UnitRequest} {i : Instr} (h : decodeUnit r = .ok i) :
    RequestOf r.port r.bytes i := by
  obtain ⟨port, p, a⟩ := r
  cases port with
  | mpeg | adts | flac | oggPage | oggFlac =>
    obtain ⟨found, rfl⟩ := whenPattern_eq_ok.mp h
    exact .plain found rfl
  | opus => cases h; exact requestOf_decodeOpusPacket p
  | vorbis => exact requestOf_decodeVorbisPacket h
  | skeleton => exact requestOf_decodeSkeletonPacket h
  | engine =>
    unfold decodeUnit at h
    simp only at h
    split at h
    · exact requestOf_decodeEngine h
    · cases h

/-- Settles O3: a host command on the channel, every other row on its port. -/
theorem encodeThenDecode : Obligations.EncodeThenDecode := by
  intro i wf
  refine ⟨?_, fun b tail h => decodeChannel_encode wf h tail⟩
  cases h : encode i with
  | channel b =>
    have alone := decodeChannel_encode wf h []
    rw [List.append_nil] at alone
    simp only [decodeEncoded, alone]
  | unit r => simp only [decodeEncoded, decodeUnit_encode wf h, Except.toOption]

/-- Settles O4. -/
theorem decodeThenEncode : Obligations.DecodeThenEncode :=
  ⟨fun _ _ _ h => encode_of_decodeChannel h, fun _ _ h => requestOf_decodeUnit h⟩

/-- Settles O5: each word and request decodes by evaluation. -/
theorem writtenWordsDecode : Obligations.WrittenWordsDecode := by
  unfold Obligations.WrittenWordsDecode
  decide

end Sys2Proof.Machine

/-! The step as a whole: what it makes of a unit's request (R71, R72), and the rows and pages that stop, end a
flush or leave no effect. -/

namespace Sys2Proof.Machine

set_option Elab.async false

/-! ### Requests to the units -/

theorem step_of_request {s : State} {r : UnitRequest} (h : s.unitReq = some r) :
    step s = answerRequest r { s with unitReq := none } := by
  have restored : s = { { s with unitReq := none } with unitReq := some r } := by
    obtain ⟨⟩ := s
    simp only at h
    rw [h]
  exact (congrArg step restored).trans (step_of_unitReq r { s with unitReq := none } rfl)

/-- A header port answers as its row does, whether or not the bytes show the port's pattern (R100, R111, R121,
R188). -/
theorem answerRequest_header {port : Port} {b : Bytes} {i : Instr} (a : EngineArgs) (s : State)
    (row : (port, i) ∈ [(Port.mpeg, Instr.mpegHdr b), (.adts, .adtsHdr b), (.flac, .flacHdr b),
      (.oggPage, .oggPage b)]) : answerRequest ⟨port, b, a⟩ s = exec i s := by
  have either : ∀ {port : Port} {i : Instr} (found : Bool), decodeUnit ⟨port, b, a⟩ = whenPattern found port i →
      unmatchedUnit ⟨port, b, a⟩ s = exec i s → answerRequest ⟨port, b, a⟩ s = exec i s := by
    intro port i found decoded unmatched
    cases found with
    | true => exact answerRequest_of_ok _ s decoded
    | false => exact (answerRequest_of_error _ s decoded).trans unmatched
  simp only [List.mem_cons, Prod.mk.injEq, List.not_mem_nil, or_false] at row
  obtain ⟨rfl, rfl⟩ | ⟨rfl, rfl⟩ | ⟨rfl, rfl⟩ | ⟨rfl, rfl⟩ := row
  · exact either _ rfl rfl
  · exact either _ rfl rfl
  · exact either _ rfl rfl
  · exact either _ rfl rfl

theorem not_startsWith {signature p : Bytes} (no : ¬ signature <+: p) : ¬startsWith signature p = true :=
  mt List.isPrefixOf_iff_prefix.mp no

/-- A Vorbis packet of no row: empty, or odd without a signature (R221). -/
theorem vorbisPacket_unsigned {p : Bytes} (s : State)
    (unsigned : p = [] ∨ ((byteAt p 0).getLsbD 0 = true ∧ ¬ Pattern.vorbis 1 <+: p ∧ ¬ Pattern.vorbis 3 <+: p
      ∧ ¬ Pattern.vorbis 5 <+: p)) : vorbisPacket p s = badPacket p s := by
  unfold vorbisPacket
  split
  · rfl
  · next filled =>
    obtain rfl | ⟨odd, noId, noComment, noSetup⟩ := unsigned
    · exact absurd rfl filled
    · rw [bit, if_pos odd, if_neg (not_startsWith noId),
        if_neg (not_startsWith noComment), if_neg (not_startsWith noSetup)]

section
variable {p : Bytes} {s : State}

/-- An Ogg FLAC packet that begins like a frame (R228). -/
def FlacFrameStart (p : Bytes) : Prop :=
  2 ≤ p.length ∧ byteAt p 0 = 0xFF ∧ (byteAt p 1 = 0xF8 ∨ byteAt p 1 = 0xF9)

theorem oggFlacPacket_frame (s : State) (noId : ¬ Pattern.oggFlac <+: p) (start : FlacFrameStart p) :
    oggFlacPacket p s = oggFlacFramePacket p s := by
  rw [oggFlacPacket, if_neg (not_startsWith noId)]
  exact if_pos start

theorem oggFlacPacket_other (s : State) (noId : ¬ Pattern.oggFlac <+: p) (other : ¬ FlacFrameStart p) :
    oggFlacPacket p s = (.consumed, s) := by
  rw [oggFlacPacket, if_neg (not_startsWith noId)]
  exact if_neg other

theorem oggFlacFramePacket_unidentified (p : Bytes) (bare : s.idHeader = none) :
    oggFlacFramePacket p s = badPacket p s := by
  simp [oggFlacFramePacket, bare]

theorem oggFlacFramePacket_parsed {t : State} {h : FlacHeader} (held : s.idHeader ≠ none)
    (parsed : decodeFlac p s.streamInfo s = (.parsed h, t)) :
    oggFlacFramePacket p s = (.frame (.flac h), t) := by
  rw [oggFlacFramePacket, if_pos (Option.isSome_iff_ne_none.mpr held), parsed]

theorem oggFlacFramePacket_refused {t : State} {d : DecodeResult FlacHeader} (held : s.idHeader ≠ none)
    (refused : decodeFlac p s.streamInfo s = (d, t)) (noHeader : ∀ h, d ≠ .parsed h) :
    oggFlacFramePacket p s = badPacket p t := by
  rw [oggFlacFramePacket, if_pos (Option.isSome_iff_ne_none.mpr held), refused]
  cases d with
  | parsed h => exact absurd rfl (noHeader h)
  | need k => rfl
  | invalid => rfl

theorem skeletonPacket_unset (p : Bytes) (unset : s.codec = .unset) : skeletonPacket p s = (.ignored, s) :=
  if_pos unset

/-- The Skeleton port answers as the rows do, by whichever signature the packet shows (R202). -/
theorem answerRequest_skeleton (p : Bytes) (a : EngineArgs) (s : State) :
    answerRequest ⟨.skeleton, p, a⟩ s = packetReturns (skeletonPacket p s) := by
  by_cases head : Pattern.fishead.isPrefixOf p = true
  · exact answerRequest_of_ok _ s (i := .skeletonFishead p) (if_pos head)
  by_cases bone : Pattern.fisbone.isPrefixOf p = true
  · exact answerRequest_of_ok _ s (i := .skeletonFisbone p) ((if_neg head).trans (if_pos bone))
  have decoded : decodeUnit ⟨.skeleton, p, a⟩
      = whenPattern (Pattern.index.isPrefixOf p) .skeleton (.skeletonIndex p) :=
    (if_neg head).trans (if_neg bone)
  by_cases index : Pattern.index.isPrefixOf p = true
  · exact answerRequest_of_ok _ s (decoded.trans (if_pos index))
  · exact answerRequest_of_error _ s (decoded.trans (if_neg index))

end

/-- Settles O1. -/
theorem stepRunsDecodedInstruction : Obligations.StepRunsDecodedInstruction := by
  intro s s' consumed
  refine ⟨fun i rest => step_of_command, step_of_incomplete,
    fun r i request decoded => (step_of_request request).trans (answerRequest_of_ok r s' decoded),
    fun r e request decoded => (step_of_request request).trans (answerRequest_of_error r s' decoded),
    fun p a => ⟨?_, ?_, ?_, ?_, fun request unsigned => ?_, fun request noId =>
      ⟨fun other => ?_, fun frame bare => ?_, fun frame held => ⟨fun h t parsed => ?_, fun d t refused other => ?_⟩⟩,
      fun request unset => ?_⟩⟩
  · exact fun request => (step_of_request request).trans (answerRequest_header a s' (by simp))
  · exact fun request => (step_of_request request).trans (answerRequest_header a s' (by simp))
  · exact fun request => (step_of_request request).trans (answerRequest_header a s' (by simp))
  · exact fun request => (step_of_request request).trans (answerRequest_header a s' (by simp))
  · rw [step_of_request request, answerRequest_vorbis, vorbisPacket_unsigned _ unsigned]
    rfl
  · rw [step_of_request request, answerRequest_oggFlac, oggFlacPacket_other _ noId other]
    rfl
  · rw [step_of_request request, answerRequest_oggFlac, oggFlacPacket_frame _ noId frame,
      oggFlacFramePacket_unidentified (s := s') p bare]
    rfl
  · rw [step_of_request request, answerRequest_oggFlac, oggFlacPacket_frame _ noId frame,
      oggFlacFramePacket_parsed (s := s') held parsed]
    rfl
  · rw [step_of_request request, answerRequest_oggFlac, oggFlacPacket_frame _ noId frame,
      oggFlacFramePacket_refused (s := s') held refused other]
    rfl
  · rw [step_of_request request, answerRequest_skeleton, skeletonPacket_unset (s := s') p unset]
    rfl

/-! ### The end of a flush (R161) -/

theorem microStep_flush_done {s : State} (flushing : s.flushing = true) (empty : s.buf = []) :
    microStep s = .flushed (flushComplete s) :=
  if_pos ⟨flushing, empty⟩

/-- Settles O11: PULL finds the flush complete at once, and flushComplete resets every other field. -/
theorem flushCompletionResets : Obligations.FlushCompletionResets := by
  intro s conf flushing empty queue
  rw [exec_pull conf, pullLoop_flushed _ queue (microStep_flush_done flushing empty)]
  simp only [flushComplete, clearStream, State.reset, queue]

/-! ### Operands outside the rules (log entries 3, 7) -/

/-- No other engine than those R71 lists. -/
theorem decodeEngine_reserved {sel : Byte} (a : EngineArgs) (reserved : sel.toNat ∉ engineSelects) :
    decodeEngine sel a = .error .reservedSelect := by
  simp only [engineSelects, List.mem_cons, List.not_mem_nil, or_false, not_or] at reserved
  obtain ⟨h0, h1, h2, h3, h4, h5, h6, h7, h8, h9⟩ := reserved
  unfold decodeEngine
  split
  case h_11 => rfl
  all_goals contradiction

/-- Settles O20. -/
theorem operandsOutsideTheDomainStop : Obligations.OperandsOutsideTheDomainStop :=
  ⟨fun _ _ exceeds => if_neg (Nat.not_le.mpr exceeds), fun _ _ past => if_neg (Nat.not_le.mpr past),
    fun _ a s reserved request => (step_of_request request).trans
      (answerRequest_of_error _ { s with unitReq := none } (decodeEngine_reserved a reserved))⟩

/-! ### Comment and Skeleton packets (R202, R219, R225) -/

/-- With codec FLAC a packet that begins like none of its packets is consumed (R228). -/
theorem skeletonPacket_flac {p : Bytes} {s : State} (flac : s.codec = .flac) (b : Byte)
    (first : byteAt p 0 = b) (noId : b ≠ 0x7F) (noFrame : b ≠ 0xFF) : skeletonPacket p s = (.consumed, s) := by
  have other : ¬ Pattern.oggFlac <+: p := by
    rintro ⟨rest, rfl⟩
    exact noId first.symm
  have start : ¬ FlacFrameStart p := fun h => noFrame (first.symm.trans h.2.1)
  rw [skeletonPacket, if_neg (by rw [flac]; decide), codecPacket, flac]
  exact oggFlacPacket_other s other start

/-- Settles O36: each Skeleton signature begins with a letter, which begins no FLAC packet. -/
theorem commentAndSkeletonPackets : Obligations.CommentAndSkeletonPackets := by
  intro p s
  have ignored : ∀ unset : s.codec = .unset, packetReturns (skeletonPacket p s) = _ :=
    fun unset => congrArg packetReturns (skeletonPacket_unset p unset)
  have consumed : s.codec = .flac → ∀ (b : Byte) (rest : Bytes), b :: rest <+: p → b ≠ 0x7F → b ≠ 0xFF →
      packetReturns (skeletonPacket p s) = .next { s with result := .packet .consumed } := by
    rintro flac b rest ⟨tail, rfl⟩ noId noFrame
    exact congrArg packetReturns (skeletonPacket_flac flac b rfl noId noFrame)
  refine ⟨rfl, rfl, fun unset => ⟨ignored unset, ignored unset, ignored unset⟩,
    fun flac => ⟨fun head => ?_, fun bone => ?_, fun index => ?_⟩⟩
  · exact consumed flac _ _ head (by decide) (by decide)
  · exact consumed flac _ _ bone (by decide) (by decide)
  · exact consumed flac _ _ index (by decide) (by decide)

/-! ### Pages of no known codec (R200 to R202) -/

/-- What dropping a continuation over PEND_CAP queues: nothing, or W7 while logging, with nothing pending. -/
def OverflowWarning (s : State) (b : Bytes) (q : List Event) : Prop :=
  q = [] ∨ (s.logEn = true ∧ b = [] ∧
    ∃ n, s.par.pendCap < n ∧ q = [.warn .pendingOverflow s.pos (.length n)])

theorem setPending_overflow (p : Bytes) (s : State) :
    ∃ b q, setPending p s = { s with pending := b, outQ := s.outQ ++ q } ∧ OverflowWarning s b q := by
  by_cases fits : p.length ≤ s.par.pendCap
  · exact ⟨p, [], by rw [setPending_fits fits, List.append_nil], .inl rfl⟩
  · have exceeds := Nat.lt_of_not_le fits
    refine ⟨[], _, (setPending_overflows exceeds).trans (warn_cursor _ _ _), ?_⟩
    by_cases log : s.logEn = true
    · exact .inr ⟨log, rfl, p.length, exceeds, if_pos log⟩
    · exact .inl (if_neg log)

theorem holdBack_overflow (pk : List PagePacket) (s : State) :
    ∃ b q, (holdBack pk s).2 = { s with pending := b, outQ := s.outQ ++ q } ∧ OverflowWarning s b q := by
  by_cases isOpen : pk.getLast?.map (·.2) = some true
  · rw [holdBack_of_open isOpen]
    exact setPending_overflow _ s
  · rw [holdBack_of_complete isOpen]
    exact ⟨s.pending, [], by rw [List.append_nil], .inl rfl⟩

/-- Reassembly writes pending and queues at most the W7 of a dropped continuation. -/
theorem continuation_overflow (pk : List PagePacket) (s : State) :
    ∃ b q, (continuation pk s).2 = { s with pending := b, outQ := s.outQ ++ q } ∧ OverflowWarning s b q := by
  cases pk with
  | nil => exact holdBack_overflow [] s
  | cons p rest =>
    rw [continuation_cons]
    exact holdBack_overflow _ { s with pending := [] }

theorem sniffCodec_eq_none {p : Bytes} (noOpus : ¬ Pattern.opusHead <+: p) (noFlac : ¬ Pattern.oggFlac <+: p)
    (noVorbis : ¬ Pattern.vorbis 1 <+: p) : sniffCodec p = none := by
  rw [sniffCodec, if_neg (not_startsWith noOpus),
    if_neg (not_startsWith noFlac), if_neg (not_startsWith noVorbis)]

/-- The sniff finds nothing where the first packet, if there is one, shows no signature (R201). -/
theorem recognise_unknown {pk : List Bytes} {s : State} (unset : s.codec = .unset)
    (unknown : ∀ p rest, pk = p :: rest →
      ¬ Pattern.opusHead <+: p ∧ ¬ Pattern.oggFlac <+: p ∧ ¬ Pattern.vorbis 1 <+: p) :
    recognise pk s = (false, s) := by
  rw [recognise, if_pos unset]
  cases pk with
  | nil => rfl
  | cons p rest =>
    obtain ⟨noOpus, noFlac, noVorbis⟩ := unknown p rest rfl
    rw [sniff, sniffCodec_eq_none noOpus noFlac noVorbis]

theorem processPage_unknown {h : OggPageHeader} {s : State} (c : Bool)
    (unknown : recognise (pagePackets h s).1 (pagePackets h s).2 = (false, (pagePackets h s).2)) :
    processPage h c s = advanceBy h.pageLength (pagePackets h s).2 := by
  rw [processPage, pageEffects_eq]
  simp only
  rw [unknown]
  rfl

/-- Settles O41: sequence check and reassembly are all that happens before the advance. -/
theorem unknownPagesAreIgnored : Obligations.UnknownPagesAreIgnored := by
  intro h c s unset cont unknown
  obtain ⟨b, w7, state, overflow⟩ := continuation_overflow (splitPackets h.segmentTable
    (slice (s.buf.take h.pageLength) h.headerLength h.pageLength) []) (seqCheck h s)
  change cont.2 = _ at state
  rw [seqCheck_eq] at state overflow
  have page : processPage h c s = advanceBy h.pageLength cont.2 :=
    processPage_unknown c (recognise_unknown (s := cont.2) (by rw [state]; exact unset) unknown)
  refine ⟨w7, ?_, ?_⟩
  · rw [page, state]
    rfl
  · rw [state]
    exact overflow

end Sys2Proof.Machine

/-! What a committed micro-step did, by the headers that decode at the cursor and behind the unit (R140 to R158):
each row of the mode table forward and back. -/

namespace Sys2Proof.Machine

set_option Elab.async false

/-! ### What a header decoder reads and writes of the state (R134) -/

theorem cacheLookup_relooked {s u : State} (look : Relooked s u) (key : Bytes) :
    (cacheLookup key u).1 = (cacheLookup key s).1 := by
  obtain ⟨k, rfl⟩ := look
  simp only [cacheLookup]
  split
  · split <;> rfl
  · rfl

theorem decodeMpeg_relooked {s u : State} (look : Relooked s u) (b : Bytes) :
    (decodeMpeg b u).1 = (decodeMpeg b s).1 := by
  unfold decodeMpeg
  simp only [cacheLookup_relooked look]
  split
  · rfl
  split
  · rfl
  split <;> rfl

theorem decodeAdts_relooked {s u : State} (look : Relooked s u) (b : Bytes) :
    (decodeAdts b u).1 = (decodeAdts b s).1 := by
  unfold decodeAdts
  simp only [cacheLookup_relooked look]
  split
  · rfl
  split
  · rfl
  split
  · rfl
  split <;> rfl

theorem decodeAt_relooked {s u : State} (look : Relooked s u) (off : Nat) :
    (decodeAt off u).1 = (decodeAt off s).1 := by
  have sel := look.sameInput.codecSel
  have buf := look.sameInput.buf
  by_cases mpeg : s.codecSel.toNat = 0
  · rw [decodeAt_of_mpeg off mpeg, decodeAt_of_mpeg off (sel ▸ mpeg), buf, decodeMpeg_relooked look]
  by_cases adts : s.codecSel.toNat = 1
  · rw [decodeAt_of_adts off adts, decodeAt_of_adts off (sel ▸ adts), buf, decodeAdts_relooked look]
  · rw [decodeAt_of_page off mpeg adts, decodeAt_of_page off (sel ▸ mpeg) (sel ▸ adts), buf]

section
variable {s : State} {b : Bytes}

theorem decodeMpeg_short (short : b.length < 4) : decodeMpeg b s = (.need 4, s) := if_pos short

theorem decodeAdts_short (short : b.length < 7) : decodeAdts b s = (.need 7, s) := if_pos short

theorem decodeFlac_short {si : Option StreamInfo} (short : b.length < 4) : decodeFlac b si s = (.need 4, s) :=
  if_pos short

/-- With the cache disabled a lookup, and with it a decoder, writes nothing. -/
theorem cacheLookup_disabled (off : s.cacheEn = false) (key : Bytes) : cacheLookup key s = (none, s) :=
  cacheLookup_miss (.inl off)

theorem decodeMpeg_disabled (off : s.cacheEn = false) (b : Bytes) : (decodeMpeg b s).2 = s := by
  unfold decodeMpeg
  simp only [cacheLookup_disabled off]
  split
  · rfl
  split
  · rfl
  split <;> rfl

theorem decodeAdts_disabled (off : s.cacheEn = false) (b : Bytes) : (decodeAdts b s).2 = s := by
  unfold decodeAdts
  simp only [cacheLookup_disabled off]
  split
  · rfl
  split
  · rfl
  split
  · rfl
  split <;> rfl

theorem decodeFlac_disabled (off : s.cacheEn = false) (b : Bytes) (si : Option StreamInfo) :
    (decodeFlac b si s).2 = s := by
  unfold decodeFlac
  simp only [cacheLookup_disabled off]
  split
  · rfl
  split
  · rfl
  split
  · rfl
  split
  · rfl
  split
  · rfl
  split <;> rfl

theorem decodeAt_disabled (off : s.cacheEn = false) (i : Nat) : (decodeAt i s).2 = s := by
  by_cases mpeg : s.codecSel.toNat = 0
  · rw [decodeAt_of_mpeg i mpeg]
    exact decodeMpeg_disabled off _
  by_cases adts : s.codecSel.toNat = 1
  · rw [decodeAt_of_adts i adts]
    exact decodeAdts_disabled off _
  · rw [decodeAt_of_page i mpeg adts]

/-- Past the end of the buffer a decoder does not come to its lookup. -/
theorem decodeAt_past_end {off : Nat} (past : s.buf.length ≤ off) : (decodeAt off s).2 = s := by
  have nothing : s.buf.drop off = [] := List.drop_eq_nil_of_le past
  by_cases mpeg : s.codecSel.toNat = 0
  · rw [decodeAt_of_mpeg off mpeg, nothing, decodeMpeg_short (by decide)]
  by_cases adts : s.codecSel.toNat = 1
  · rw [decodeAt_of_adts off adts, nothing, decodeAdts_short (by decide)]
  · rw [decodeAt_of_page off mpeg adts]

/-- A decoder that is not short has a byte before it. -/
theorem nonempty_of_decodeAt_answer (answered : ∀ k, (decodeAt 0 s).1 ≠ .need k) : s.buf ≠ [] := by
  intro empty
  obtain ⟨k, need⟩ := decodeAt_need_of_length_le 0 s (by simp [empty])
  exact answered k need

theorem nonempty_of_decodeFlac_answer {si : Option StreamInfo} (answered : ∀ k, (decodeFlac s.buf si s).1 ≠ .need k) :
    s.buf ≠ [] := by
  intro empty
  exact answered 4 (by rw [decodeFlac_short (by simp [empty])])

end

/-! ### Attempts -/

/-- What is no Need, and everything while flushing, goes on (R136). -/
theorem orSuspend_value {α : Type} (off : Nat) {a : DecodeResult α × State}
    (goesOn : (∀ k, a.1 ≠ .need k) ∨ a.2.flushing = true) : orSuspend off a = .value a.1 a.2 := by
  rcases orSuspend_cases off a with ⟨e, -⟩ | ⟨k, need, running, -⟩
  · exact e
  · rcases goesOn with answered | flushing
    · exact absurd need (answered k)
    · rw [running] at flushing
      cases flushing

/-- Outside a flush what goes on is no Need. -/
theorem orSuspend_value_running {α : Type} {off : Nat} {a : DecodeResult α × State} {d : DecodeResult α}
    {t : State} (e : orSuspend off a = .value d t) : t.flushing = true ∨ ∀ k, d ≠ .need k := by
  cases running : t.flushing with
  | true => exact .inl rfl
  | false => exact .inr fun k need => orSuspend_not_need running (need ▸ e)

/-! ### What the commitments write -/

/-- Giving up sync, from the state before the decoders ran. -/
theorem resync_eq {s u : State} (look : Relooked s u) (w : Warning) :
    resync w u = { s with
      mode := .seeking, cacheEn := false, cacheMap := [], lastKey := none,
      buf := s.buf.drop 1, pos := s.pos + 1,
      outQ := s.outQ ++ if s.logEn = true then [.warn w s.pos .absent] else [] } := by
  obtain ⟨k, rfl⟩ := look
  rw [resync, warn_cursor]
  rfl

/-- A frame taken at the cursor leaves the sync state. -/
theorem takeFrame_sync (n : Nat) (h : Header) (d : Bytes) (c t : Bool) (s : State) :
    (advanceBy n (emitFrame h d c t s)).mode = s.mode ∧ (advanceBy n (emitFrame h d c t s)).cacheEn = s.cacheEn :=
  have same := SameInput.emitFrame h d c t s
  ⟨same.mode, same.cacheEn⟩

/-- A unit accepted leaves the sync state: only the micro-step around it changes it. -/
theorem acceptUnit_sync (h : UnitHeader) (c : Bool) (s : State) :
    (acceptUnit h c s).mode = s.mode ∧ (acceptUnit h c s).cacheEn = s.cacheEn := by
  cases h with
  | mpeg m => exact takeFrame_sync _ _ _ _ _ s
  | adts a => exact takeFrame_sync _ _ _ _ _ s
  | page p => exact ⟨(SameInput.pageEffects p c s).mode, (SameInput.pageEffects p c s).cacheEn⟩

/-- A page cut off by the end of the stream: with a codec set it is queued whole, without codec frames (R205). -/
theorem truncatedPage_eq (h : OggPageHeader) (s : State) :
    truncatedPage h s = { s with
      buf := [], pos := s.pos + BitVec.ofNat 64 s.buf.length,
      outQ := s.outQ ++ if s.codec = .unset then [] else [.page {
        header := h, data := s.buf, offset := s.pos, codecFrames := [], samples := 0, duration := 0,
        totalBytesOut := s.totalBytesOut, totalSamples := s.totalSamples,
        totalDuration := if s.curRate = 0 then 0 else durationOf s.totalSamples.toNat s.curRate,
        truncated := true, confirmed := decide (s.mode = .synced) }] } := by
  have record := pageRecord_eq h s.buf [] (decide (s.mode = .synced)) true s
  unfold truncatedPage
  by_cases unset : s.codec = .unset
  · simp only [unset, if_true, advanceBy, List.drop_length, List.append_nil]
  · simp only [unset, if_false, advanceBy, emit, List.drop_length, record]
    rfl

theorem acceptTruncated_sync (h : UnitHeader) (s : State) :
    (acceptTruncated h s).mode = s.mode ∧ (acceptTruncated h s).cacheEn = s.cacheEn := by
  cases h with
  | mpeg m => exact takeFrame_sync _ _ _ _ _ s
  | adts a => exact takeFrame_sync _ _ _ _ _ s
  | page p =>
    change (truncatedPage p s).mode = _ ∧ (truncatedPage p s).cacheEn = _
    rw [truncatedPage_eq]
    exact ⟨rfl, rfl⟩

/-! ### Fixed-length units: what a commitment did (R144, R146, R156 to R158) -/

/-- What a committed micro-step of MPEG, ADTS or Ogg did, by the headers that decode in the state it began in. -/
inductive FixedCommit (s : State) : State → Prop where
  /-- No header at the cursor, while SEEKING. -/
  | skipped (u : State) (look : Relooked s u) (seeking : s.mode = .seeking)
      (unparsed : ∀ h, (decodeAt 0 s).1 ≠ .parsed h) : FixedCommit s (advanceBy 1 u)
  /-- No header at the cursor, while SYNCED. -/
  | lost (u : State) (look : Relooked s u) (synced : s.mode = .synced)
      (unparsed : ∀ h, (decodeAt 0 s).1 ≠ .parsed h) : FixedCommit s (resync .syncLost u)
  /-- A header that none confirms. -/
  | refuted (h : UnitHeader) (u : State) (look : Relooked s u) (seeking : s.mode = .seeking)
      (parsed : (decodeAt 0 s).1 = .parsed h) : FixedCommit s (resync .falsePositive u)
  /-- A header that the one behind its unit confirms. -/
  | confirmed (h h2 : UnitHeader) (u : State) (look : Relooked s u) (seeking : s.mode = .seeking)
      (parsed : (decodeAt 0 s).1 = .parsed h) (second : (decodeAt (unitLength h) s).1 = .parsed h2)
      (inside : unitLength h ≤ s.buf.length) : FixedCommit s (acceptUnit h true (gainSync u))
  /-- A whole unit while SYNCED. -/
  | whole (h : UnitHeader) (u : State) (look : Relooked s u) (synced : s.mode = .synced)
      (parsed : (decodeAt 0 s).1 = .parsed h) : FixedCommit s (acceptUnit h true u)
  /-- At flush a whole unit with too few bytes behind it. -/
  | unconfirmed (h : UnitHeader) (u : State) (look : Relooked s u) (seeking : s.mode = .seeking)
      (flushing : s.flushing = true) : FixedCommit s (acceptUnit h false u)
  /-- At flush a unit longer than the buffer. -/
  | cut (h : UnitHeader) (u : State) (look : Relooked s u) (flushing : s.flushing = true)
      (parsed : (decodeAt 0 s).1 = .parsed h) : FixedCommit s (acceptTruncated h u)

theorem confirmUnit_fixedCommit {s u t : State} {h : UnitHeader} (look : Relooked s u)
    (seeking : s.mode = .seeking) (parsed : (decodeAt 0 s).1 = .parsed h)
    (hc : confirmUnit h u = .committed t) : FixedCommit s t := by
  unfold confirmUnit at hc
  split at hc
  · cases hc
  · next k v e =>
    have look' := look.trans (relooked_of_decodeAt e)
    have flushing : s.flushing = true := by
      rw [← look'.sameInput.flushing]
      exact (orSuspend_value_running e).resolve_right fun no => no k rfl
    split at hc <;> cases hc
    · exact .cut h v look' flushing parsed
    · exact .unconfirmed h v look' seeking flushing
  · next v e =>
    cases hc
    exact .refuted h v (look.trans (relooked_of_decodeAt e)) seeking parsed
  · next h2 v e =>
    cases hc
    have second := (orSuspend_decodeAt _ _ _ _ e).1.symm
    rw [decodeAt_relooked look] at second
    have inside := decodeAt_inside e (by simp)
    rw [look.sameInput.buf] at inside
    exact .confirmed h h2 v (look.trans (relooked_of_decodeAt e)) seeking parsed second inside.le

theorem syncedUnit_fixedCommit {s u t : State} {h : UnitHeader} (look : Relooked s u)
    (synced : s.mode = .synced) (parsed : (decodeAt 0 s).1 = .parsed h)
    (hc : syncedUnit h u = .committed t) : FixedCommit s t := by
  unfold syncedUnit at hc
  split at hc
  · split at hc <;> cases hc
    next flushing => exact .cut h u look (look.sameInput.flushing.symm.trans flushing) parsed
  · cases hc
    exact .whole h u look synced parsed

theorem fixedStep_cases {s t : State} (hc : fixedStep s = .committed t) : FixedCommit s t := by
  unfold fixedStep at hc
  split at hc
  · cases hc
  · next h u e =>
    have look := relooked_of_decodeAt e
    have parsed := (orSuspend_decodeAt _ _ _ _ e).1.symm
    have mode := look.sameInput.mode
    split at hc
    · next seeking => exact confirmUnit_fixedCommit look (mode.symm.trans seeking) parsed hc
    · next synced => exact syncedUnit_fixedCommit look (mode.symm.trans synced) parsed hc
  · next d u noHeader e =>
    have look := relooked_of_decodeAt e
    have unparsed : ∀ h, (decodeAt 0 s).1 ≠ .parsed h := fun h parsed =>
      noHeader h ((orSuspend_decodeAt _ _ _ _ e).1.trans parsed)
    have mode := look.sameInput.mode
    split at hc <;> cases hc
    · next seeking => exact .skipped u look (mode.symm.trans seeking) unparsed
    · next synced => exact .lost u look (mode.symm.trans synced) unparsed

/-! ### Native FLAC: what a commitment did (R149 to R152) -/

/-- What a committed micro-step of native FLAC did, by the header at the cursor. -/
inductive FlacCommit (s : State) : State → Prop where
  /-- No header at the cursor, while SEEKING. -/
  | skipped (u : State) (look : Relooked s u) (seeking : s.mode = .seeking)
      (unparsed : ∀ h, (decodeFlac s.buf none s).1 ≠ .parsed h) : FlacCommit s (advanceBy 1 u)
  /-- No header at the cursor, while SYNCED. -/
  | lost (u : State) (look : Relooked s u) (synced : s.mode = .synced)
      (unparsed : ∀ h, (decodeFlac s.buf none s).1 ≠ .parsed h) : FlacCommit s (resync .syncLost u)
  /-- A header and no frame end. -/
  | noFooter (h : FlacHeader) (u : State) (look : Relooked s u)
      (parsed : (decodeFlac s.buf none s).1 = .parsed h) : FlacCommit s (resync .flacNoFooter u)
  /-- A frame, with a header behind it unless flushing. -/
  | found (h : FlacHeader) (p : Nat) (c : Bool) (u : State) (look : Relooked s u)
      (parsed : (decodeFlac s.buf none s).1 = .parsed h) (confirmed : c = true ∨ s.flushing = true) :
      FlacCommit s (acceptFlac h p c u)

/-- Outside a flush a frame end has a header behind it (R150). -/
theorem flacScanFrom_found_confirmed {tries p q : Nat} {rest : Bytes} {s t : State} {c : Bool}
    (h : flacScanFrom tries p rest s = .value (.found q c) t) : c = true ∨ s.flushing = true := by
  induction tries generalizing p rest s with
  | zero => cases h
  | succ n ih =>
    unfold flacScanFrom at h
    split at h
    · cases h
    split at h
    · next atEnd => exact .inr atEnd.1
    split at h
    · split at h
      · exact ih h
      · cases h
    split at h
    · exact ih h
    split at h
    · exact ih h
    split at h
    · cases h
    · cases h
      exact .inl rfl
    · next k v e =>
      have flushing := (orSuspend_value_running e).resolve_right fun no => no k rfl
      exact .inr ((relooked_of_decodeFlac e).sameInput.flushing.symm.trans flushing)
    · next e =>
      have flushing := (relooked_of_decodeFlac e).sameInput.flushing
      rw [← flushing]
      exact ih h

theorem flacStep_commit {s t : State} (hc : flacStep s = .committed t) : FlacCommit s t := by
  unfold flacStep at hc
  split at hc
  · cases hc
  · next h u e =>
    have look := relooked_of_decodeFlac e
    have parsed := (orSuspend_decodeFlac _ _ _ _ _ _ e).1.symm
    split at hc
    · cases hc
    · next v scan =>
      cases hc
      exact .noFooter h v (look.trans (flacScanFrom_found_le scan).1) parsed
    · next p c v scan =>
      cases hc
      have confirmed := flacScanFrom_found_confirmed scan
      rw [look.sameInput.flushing] at confirmed
      exact .found h p c v (look.trans (flacScanFrom_found_le scan).1) parsed confirmed
  · next d u noHeader e =>
    have look := relooked_of_decodeFlac e
    have unparsed : ∀ h, (decodeFlac s.buf none s).1 ≠ .parsed h := fun h parsed =>
      noHeader h ((orSuspend_decodeFlac _ _ _ _ _ _ e).1.trans parsed)
    have mode := look.sameInput.mode
    split at hc <;> cases hc
    · next seeking => exact .skipped u look (mode.symm.trans seeking) unparsed
    · next synced => exact .lost u look (mode.symm.trans synced) unparsed

/-- A frame leaves SYNCED as it is, and SEEKING unless a header stands behind it (R151). -/
theorem acceptFlac_sync (h : FlacHeader) (p : Nat) (c : Bool) (s : State) :
    (s.mode = .synced → (acceptFlac h p c s).mode = .synced ∧ (acceptFlac h p c s).cacheEn = s.cacheEn)
      ∧ (s.mode = .seeking → c = true →
        (acceptFlac h p c s).mode = .synced ∧ (acceptFlac h p c s).cacheEn = true)
      ∧ (c = false → (acceptFlac h p c s).mode = s.mode ∧ (acceptFlac h p c s).cacheEn = s.cacheEn) := by
  refine ⟨fun synced => ?_, fun seeking found => ?_, fun no => ?_⟩
  · rw [acceptFlac, if_neg (by simp [synced])]
    obtain ⟨mode, cacheEn⟩ := takeFrame_sync p (.flac h) (s.buf.take p) (decide (s.mode = .synced)) false s
    exact ⟨mode.trans synced, cacheEn⟩
  · rw [acceptFlac, if_pos ⟨seeking, found⟩]
    exact takeFrame_sync _ _ _ _ _ (gainSync s)
  · rw [acceptFlac, if_neg (by simp [no])]
    exact takeFrame_sync _ _ _ _ _ s

/-- What a committed micro-step did, for the format selected. -/
theorem microStep_commit_cases {s t : State} (hc : microStep s = .committed t) :
    (s.codecSel = 2 ∧ FlacCommit s t) ∨ (s.codecSel ≠ 2 ∧ FixedCommit s t) := by
  unfold microStep at hc
  split at hc
  · cases hc
  split at hc
  · next native => exact .inl ⟨native, flacStep_commit hc⟩
  · next fixed => exact .inr ⟨fixed, fixedStep_cases hc⟩

end Sys2Proof.Machine

/-! The statements about a committed micro-step (R142 to R163), from what it did. -/

namespace Sys2Proof.Machine

set_option Elab.async false

/-! ### Bytes consumed (R142) -/

/-- A committed micro-step takes bytes off the head of the buffer and moves the cursor by them. -/
theorem MicroCommit.consumed {s t : State} (h : MicroCommit s t) :
    ∃ n, n ≤ s.buf.length ∧ t.buf = s.buf.drop n ∧ t.pos = s.pos + BitVec.ofNat 64 n := by
  have moved : ∀ {u v : State} {n : Nat}, AtCursor s u → SameInput u v → n ≤ s.buf.length →
      ∃ m, m ≤ s.buf.length ∧ (advanceBy n v).buf = s.buf.drop m
        ∧ (advanceBy n v).pos = s.pos + BitVec.ofNat 64 m := by
    intro u v n cursor same inside
    refine ⟨n, inside, ?_, ?_⟩
    · rw [advanceBy_buf, same.buf, cursor.buf_eq]
    · rw [advanceBy_pos, same.pos, cursor.pos_eq]
  cases h with
  | skipped u look nonempty => exact moved look.atCursor (.refl u) (List.length_pos_iff.mpr nonempty)
  | resynced w u look nonempty =>
    exact ⟨1, List.length_pos_iff.mpr nonempty, by rw [resync_eq look], by rw [resync_eq look]; rfl⟩
  | frame hd n c tr u cursor inside => exact moved cursor (.emitFrame hd _ c tr u) inside
  | page hd c u cursor ogg segments inside => exact moved cursor (.pageEffects hd c u) inside
  | cutPage hd u cursor =>
    refine ⟨s.buf.length, le_rfl, ?_, ?_⟩
    · rw [truncatedPage_buf, List.drop_length]
    · rw [truncatedPage_eq, cursor.buf_eq, cursor.pos_eq]

/-- Settles O48: with a sound cache the bytes are one at least. -/
theorem committedStepConsumesBytes : Obligations.CommittedStepConsumesBytes := by
  intro s t sound hc
  obtain ⟨n, inside, buf, pos⟩ := (microStep_commits hc).consumed
  have fewer := microStep_consumes sound hc
  rw [buf, List.length_drop] at fewer
  exact ⟨n, by omega, inside, buf, pos⟩

/-! ### Confirmed and whole (R157, R160, R163) -/

/-- Nothing queued is unconfirmed or truncated. -/
def Firm (s : State) : Prop := ∀ e ∈ s.outQ, isTentative e = false

theorem isTentative_of_note {e : Event} (note : isUnitEvent e = false) : isTentative e = false := by
  cases e with
  | frame f => cases note
  | page p => cases note
  | _ => rfl

theorem Firm.queuesNotes {n : Nat} {s t : State} (firm : Firm s) (notes : QueuesNotes n s t) : Firm t := by
  obtain ⟨q, queue, -, quiet⟩ := notes
  intro e mem
  rw [queue, List.mem_append] at mem
  exact mem.elim (firm e) fun note => isTentative_of_note (quiet e note)

theorem Firm.emit {s : State} (firm : Firm s) {e : Event} (sure : isTentative e = false) : Firm (emit e s) := by
  intro e' mem
  rw [emit_outQ, List.mem_append, List.mem_singleton] at mem
  rcases mem with old | rfl
  · exact firm e' old
  · exact sure

theorem Firm.of_outQ_eq {s t : State} (firm : Firm s) (same : t.outQ = s.outQ) : Firm t :=
  firm.queuesNotes (.of_outQ_eq 0 same)

theorem Firm.atCursor {s u : State} (firm : Firm s) (cursor : AtCursor s u) : Firm u :=
  firm.of_outQ_eq cursor.outQ_eq

theorem Firm.advanceBy {s : State} (firm : Firm s) (n : Nat) : Firm (advanceBy n s) := firm

theorem Firm.resync {s : State} (firm : Firm s) (w : Warning) : Firm (resync w s) := by
  obtain ⟨q, e, notes⟩ := warn_notes w 0 .absent s
  exact firm.queuesNotes (n := 1) ⟨q, congrArg State.outQ e, notes⟩

theorem Firm.emitFrame {s : State} (firm : Firm s) (h : Header) (d : Bytes) :
    Firm (emitFrame h d true false s) := by
  rw [emitFrame_eq]
  exact (firm.queuesNotes (afterFrame_queuesNotes h d s)).emit rfl

/-- The codec frames of a page are confirmed as the page is (R203). -/
theorem dispatchPackets_firm (pk : List Bytes) (s : State) :
    ((dispatchPackets pk true s).1.any fun f => !f.confirmed || f.truncated) = false := by
  rw [List.any_eq_false]
  intro f mem
  obtain ⟨k, hk⟩ := List.getElem?_of_mem mem
  have framed := (dispatchPackets_counted pk true s).1.numbered k f hk
  simp [framed.confirmed, framed.truncated]

theorem Firm.processPage {s : State} (firm : Firm s) (h : OggPageHeader) : Firm (processPage h true s) := by
  have recognised := (firm.queuesNotes (pagePackets_queuesNotes h s)).queuesNotes
    (recognise_queuesNotes (pagePackets h s).1 (pagePackets h s).2)
  cases known : (recognise (pagePackets h s).1 (pagePackets h s).2).1 with
  | true =>
    rw [processPage_known h true s known]
    have dispatched := recognised.queuesNotes (dispatchPackets_queuesNotes (pagePackets h s).1 true _)
    refine (dispatched.emit ?_).advanceBy _
    exact dispatchPackets_firm _ _
  | false =>
    have effects := pageEffects_eq h true s
    simp only [known] at effects
    rw [Machine.processPage, effects]
    exact recognised.advanceBy _

theorem Firm.acceptUnit {s : State} (firm : Firm s) (h : UnitHeader) : Firm (acceptUnit h true s) := by
  cases h with
  | mpeg m => exact (firm.emitFrame _ _).advanceBy _
  | adts a => exact (firm.emitFrame _ _).advanceBy _
  | page p => exact firm.processPage p

/-- Settles O50: outside a flush each unit is whole, and accepted with a header behind it or in SYNCED. -/
theorem nothingTentativeOutsideFlush : Obligations.NothingTentativeOutsideFlush := by
  intro s t running empty hc
  have firm : Firm s := by simp [Firm, empty]
  have notFlushing : ¬s.flushing = true := ne_true_of_eq_false running
  change Firm t
  rcases microStep_commit_cases hc with ⟨-, commit⟩ | ⟨-, commit⟩
  · cases commit with
    | skipped u look seeking unparsed => exact (firm.atCursor look.atCursor).advanceBy 1
    | lost u look synced unparsed => exact (firm.atCursor look.atCursor).resync _
    | noFooter h u look parsed => exact (firm.atCursor look.atCursor).resync _
    | found h p c u look parsed confirmed =>
      obtain ⟨v, queue, gained, -, accepted⟩ := acceptFlac_eq h p c u
      rw [accepted, gained (confirmed.resolve_right notFlushing)]
      exact (((firm.atCursor look.atCursor).of_outQ_eq queue).emitFrame _ _).advanceBy p
  · cases commit with
    | skipped u look seeking unparsed => exact (firm.atCursor look.atCursor).advanceBy 1
    | lost u look synced unparsed => exact (firm.atCursor look.atCursor).resync _
    | refuted h u look seeking parsed => exact (firm.atCursor look.atCursor).resync _
    | confirmed h h2 u look seeking parsed second inside =>
      exact (firm.atCursor look.atCursor_gainSync).acceptUnit h
    | whole h u look synced parsed => exact (firm.atCursor look.atCursor).acceptUnit h
    | unconfirmed h u look seeking flushing => exact absurd flushing notFlushing
    | cut h u look flushing parsed => exact absurd flushing notFlushing

/-! ### The mode table (R154) -/

theorem microStep_fixed {s : State} (fixed : s.codecSel ≠ 2) (nonempty : s.buf ≠ []) :
    microStep s = fixedStep s := by
  rw [microStep, if_neg fun flushed => nonempty flushed.2, if_neg fixed]

section
variable {s : State}

/-- A header decodes at the cursor, in the format selected. -/
def HeaderParsed (s : State) : Prop :=
  if s.codecSel = 2 then ∃ h, (decodeFlac s.buf none s).1 = .parsed h else ∃ h, (decodeAt 0 s).1 = .parsed h

/-- What stands at the cursor is rejected: Invalid, or short at flush (R156). -/
def HeaderRejected (s : State) : Prop :=
  (if s.codecSel = 2 then (decodeFlac s.buf none s).1 = .invalid else (decodeAt 0 s).1 = .invalid)
    ∨ (s.flushing = true ∧ s.buf ≠ [] ∧ ¬HeaderParsed s)

theorem rejected_answer {α : Type} {a : DecodeResult α}
    (rejected : a = .invalid ∨ (s.flushing = true ∧ s.buf ≠ [] ∧ ¬∃ h, a = .parsed h)) :
    ((∀ k, a ≠ .need k) ∨ s.flushing = true) ∧ ∀ h, a ≠ .parsed h := by
  rcases rejected with rfl | ⟨flushing, -, unparsed⟩
  · exact ⟨.inl nofun, nofun⟩
  · exact ⟨.inr flushing, not_exists.mp unparsed⟩

/-- With no header at the cursor one byte is passed, and sync is given up if it was held. -/
def passByte (s u : State) : State :=
  match s.mode with
  | .seeking => advanceBy 1 u
  | .synced => resync .syncLost u

theorem passByte_seeking (seeking : s.mode = .seeking) (u : State) : passByte s u = advanceBy 1 u := by
  rw [passByte, seeking]

theorem passByte_synced (synced : s.mode = .synced) (u : State) : passByte s u = resync .syncLost u := by
  rw [passByte, synced]

theorem fixedStep_unparsed (goesOn : (∀ k, (decodeAt 0 s).1 ≠ .need k) ∨ s.flushing = true)
    (unparsed : ∀ h, (decodeAt 0 s).1 ≠ .parsed h) :
    fixedStep s = .committed (passByte s (decodeAt 0 s).2) := by
  have same := Relooked.sameInput (decodeAt_state 0 s)
  have value := orSuspend_value 0 (a := decodeAt 0 s) (by rw [same.flushing]; exact goesOn)
  rw [fixedStep, value, passByte, ← same.mode]
  cases answer : (decodeAt 0 s).1 with
  | parsed h => exact absurd answer (unparsed h)
  | need k => cases mode : (decodeAt 0 s).2.mode <;> simp only [mode]
  | invalid => cases mode : (decodeAt 0 s).2.mode <;> simp only [mode]

theorem flacStep_unparsed (goesOn : (∀ k, (decodeFlac s.buf none s).1 ≠ .need k) ∨ s.flushing = true)
    (unparsed : ∀ h, (decodeFlac s.buf none s).1 ≠ .parsed h) :
    flacStep s = .committed (passByte s (decodeFlac s.buf none s).2) := by
  have same := SameInput.decodeFlac s.buf none s
  have value := orSuspend_value 0 (a := decodeFlac s.buf none s) (by rw [same.flushing]; exact goesOn)
  rw [flacStep, value, passByte, ← same.mode]
  cases answer : (decodeFlac s.buf none s).1 with
  | parsed h => exact absurd answer (unparsed h)
  | need k => cases mode : (decodeFlac s.buf none s).2.mode <;> simp only [mode]
  | invalid => cases mode : (decodeFlac s.buf none s).2.mode <;> simp only [mode]

/-- A rejected header costs one byte. -/
theorem microStep_rejected (rejected : HeaderRejected s) :
    ∃ u, Relooked s u ∧ (s.cacheEn = false → u = s) ∧ microStep s = .committed (passByte s u) := by
  by_cases native : s.codecSel = 2
  · simp only [HeaderRejected, HeaderParsed, if_pos native] at rejected
    obtain ⟨goesOn, unparsed⟩ := rejected_answer rejected
    have nonempty : s.buf ≠ [] := rejected.elim
      (fun invalid => nonempty_of_decodeFlac_answer (si := none) (by simp [invalid])) fun short => short.2.1
    exact ⟨_, decodeFlac_state s.buf none s, fun off => decodeFlac_disabled off _ _,
      (microStep_flac native nonempty).trans (flacStep_unparsed goesOn unparsed)⟩
  · simp only [HeaderRejected, HeaderParsed, if_neg native] at rejected
    obtain ⟨goesOn, unparsed⟩ := rejected_answer rejected
    have nonempty : s.buf ≠ [] := rejected.elim
      (fun invalid => nonempty_of_decodeAt_answer (by simp [invalid])) fun short => short.2.1
    exact ⟨_, decodeAt_state 0 s, fun off => decodeAt_disabled off _,
      (microStep_fixed native nonempty).trans (fixedStep_unparsed goesOn unparsed)⟩

end

/-! ### Units of fixed length, by their headers -/

section
variable {s u v : State} {h : UnitHeader}

theorem relooked_of_decodeAt_eq {off : Nat} {d : DecodeResult UnitHeader} (e : decodeAt off s = (d, u)) :
    Relooked s u := by
  have look := decodeAt_state off s
  rwa [e] at look

theorem fixedStep_seeking (parsed : decodeAt 0 s = (.parsed h, u)) (seeking : s.mode = .seeking) :
    fixedStep s = confirmUnit h u := by
  have mode : u.mode = .seeking := (relooked_of_decodeAt_eq parsed).sameInput.mode.trans seeking
  rw [fixedStep, parsed, orSuspend_parsed rfl]
  simp only [mode]

theorem fixedStep_synced (parsed : decodeAt 0 s = (.parsed h, u)) (synced : s.mode = .synced) :
    fixedStep s = syncedUnit h u := by
  have mode : u.mode = .synced := (relooked_of_decodeAt_eq parsed).sameInput.mode.trans synced
  rw [fixedStep, parsed, orSuspend_parsed rfl]
  simp only [mode]

theorem confirmUnit_parsed {h2 : UnitHeader} (second : decodeAt (unitLength h) u = (.parsed h2, v)) :
    confirmUnit h u = .committed (acceptUnit h true (gainSync v)) := by
  rw [confirmUnit, second, orSuspend_parsed rfl]

theorem confirmUnit_invalid (second : (decodeAt (unitLength h) u).1 = .invalid) :
    confirmUnit h u = .committed (resync .falsePositive (decodeAt (unitLength h) u).2) := by
  rw [confirmUnit, orSuspend_value _ (.inl (by simp [second])), second]

/-- At flush a confirming header is short: the unit is taken unconfirmed, whole or cut off (R157). -/
theorem confirmUnit_short {k : Nat} (second : decodeAt (unitLength h) u = (.need k, v))
    (flushing : v.flushing = true) :
    confirmUnit h u = .committed
      (if v.buf.length < unitLength h then acceptTruncated h v else acceptUnit h false v) := by
  rw [confirmUnit, second, orSuspend_value _ (.inr flushing)]
  simp only
  split <;> rfl

end

/-! ### The footer scan that finds nothing (R150, R152) -/

/-- Where no candidate end passes its footer test, and the scan is not suspended for more bytes, it finds none. -/
theorem flacScanFrom_notFound {tries p last : Nat} {s : State} (rest : Bytes) (range : tries = last + 1 - p)
    (enough : s.flushing = true ∨ last + 2 ≤ s.buf.length)
    (noFooter : ∀ q, p ≤ q → q ≤ last → q ≤ s.buf.length → footerOk q s = false) :
    flacScanFrom tries p rest s = .value .notFound s := by
  induction tries generalizing p rest with
  | zero => rfl
  | succ n ih =>
    have later : ∀ rest, flacScanFrom n (p + 1) rest s = .value .notFound s := fun rest =>
      ih rest (by omega) fun q after => noFooter q (by omega)
    unfold flacScanFrom
    split
    · rfl
    next beyond =>
    split
    · next atEnd => rw [noFooter p le_rfl (by omega) atEnd.2.ge]; rfl
    split
    · next short =>
      rw [if_pos (enough.resolve_right (by omega))]
      exact later _
    next room =>
    split
    · exact later _
    · rw [noFooter p le_rfl (by omega) (by omega)]
      exact later _

theorem flacStep_noFooter {s : State} {h : FlacHeader} (parsed : (decodeFlac s.buf none s).1 = .parsed h)
    (enough : s.flushing = true ∨ Config.maxFlacFrame + 2 ≤ s.buf.length)
    (noFooter : ∀ p, h.headerLength + Config.minFlacFrame ≤ p → p ≤ Config.maxFlacFrame → p ≤ s.buf.length →
      footerMatches (s.buf.take p) = false) :
    flacStep s = .committed (resync .flacNoFooter (decodeFlac s.buf none s).2) := by
  have same := SameInput.decodeFlac s.buf none s
  have scan : flacScan h (decodeFlac s.buf none s).2 = .value .notFound (decodeFlac s.buf none s).2 := by
    refine flacScanFrom_notFound _ rfl ?_ ?_
    · rw [same.flushing, same.buf]
      exact enough
    · rw [same.buf]
      intro q past atMost inside
      rw [footerOk, same.buf]
      exact noFooter q past atMost inside
  simp only [flacStep, orSuspend_parsed parsed, scan]

/-- The rows of R154's table: what a committed micro-step does to the sync state, by what stands at the cursor. -/
inductive SyncChange (s t : State) : Prop where
  /-- No header, while SEEKING: a byte is passed. -/
  | passed (u : State) (look : Relooked s u) (seeking : s.mode = .seeking) (unparsed : ¬HeaderParsed s)
      (after : t = advanceBy 1 u)
  /-- No header, while SYNCED: sync is lost. -/
  | lost (u : State) (look : Relooked s u) (synced : s.mode = .synced) (unparsed : ¬HeaderParsed s)
      (after : t = resync .syncLost u)
  /-- A header without a footer, or that none confirms. -/
  | refuted (u : State) (look : Relooked s u) (parsed : HeaderParsed s)
      (native : s.mode = .synced → s.codecSel = 2)
      (after : t = resync (if s.codecSel = 2 then .flacNoFooter else .falsePositive) u)
  /-- A confirmed unit, while SEEKING. -/
  | gained (seeking : s.mode = .seeking) (mode : t.mode = .synced) (cacheEn : t.cacheEn = true)
  /-- A unit that leaves the sync state: in SYNCED, or at flush. -/
  | kept (steady : s.mode = .synced ∨ s.flushing = true) (mode : t.mode = s.mode)
      (cacheEn : t.cacheEn = s.cacheEn)

theorem FlacCommit.syncChange {s t : State} (native : s.codecSel = 2) (h : FlacCommit s t) : SyncChange s t := by
  have headed : HeaderParsed s ↔ ∃ h, (decodeFlac s.buf none s).1 = .parsed h := by rw [HeaderParsed, if_pos native]
  cases h with
  | skipped u look seeking unparsed =>
    exact .passed u look seeking (fun p => (not_exists.mpr unparsed) (headed.mp p)) rfl
  | lost u look synced unparsed => exact .lost u look synced (fun p => (not_exists.mpr unparsed) (headed.mp p)) rfl
  | noFooter h u look parsed =>
    exact .refuted u look (headed.mpr ⟨h, parsed⟩) (fun _ => native) (by rw [if_pos native])
  | found h p c u look parsed confirmed =>
    have same := look.sameInput
    obtain ⟨synced, found, notFound⟩ := acceptFlac_sync h p c u
    cases mode : s.mode with
    | synced =>
      obtain ⟨mode', cacheEn⟩ := synced (same.mode.trans mode)
      exact .kept (.inl mode) (mode'.trans mode.symm) (cacheEn.trans same.cacheEn)
    | seeking =>
      cases c with
      | true =>
        obtain ⟨mode', cacheEn⟩ := found (same.mode.trans mode) rfl
        exact .gained mode mode' cacheEn
      | false =>
        obtain ⟨mode', cacheEn⟩ := notFound rfl
        exact .kept (.inr (confirmed.resolve_left Bool.false_ne_true)) (mode'.trans same.mode)
          (cacheEn.trans same.cacheEn)

theorem FixedCommit.syncChange {s t : State} (fixed : s.codecSel ≠ 2) (h : FixedCommit s t) : SyncChange s t := by
  have headed : HeaderParsed s ↔ ∃ h, (decodeAt 0 s).1 = .parsed h := by rw [HeaderParsed, if_neg fixed]
  cases h with
  | skipped u look seeking unparsed =>
    exact .passed u look seeking (fun p => (not_exists.mpr unparsed) (headed.mp p)) rfl
  | lost u look synced unparsed => exact .lost u look synced (fun p => (not_exists.mpr unparsed) (headed.mp p)) rfl
  | refuted h u look seeking parsed =>
    exact .refuted u look (headed.mpr ⟨h, parsed⟩) (fun synced => by rw [seeking] at synced; cases synced)
      (by rw [if_neg fixed])
  | confirmed h h2 u look seeking parsed second inside =>
    obtain ⟨mode, cacheEn⟩ := acceptUnit_sync h true (gainSync u)
    exact .gained seeking mode cacheEn
  | whole h u look synced parsed =>
    obtain ⟨mode, cacheEn⟩ := acceptUnit_sync h true u
    exact .kept (.inl synced) (mode.trans look.sameInput.mode) (cacheEn.trans look.sameInput.cacheEn)
  | unconfirmed h u look seeking flushing =>
    obtain ⟨mode, cacheEn⟩ := acceptUnit_sync h false u
    exact .kept (.inr flushing) (mode.trans look.sameInput.mode) (cacheEn.trans look.sameInput.cacheEn)
  | cut h u look flushing parsed =>
    obtain ⟨mode, cacheEn⟩ := acceptTruncated_sync h u
    exact .kept (.inr flushing) (mode.trans look.sameInput.mode) (cacheEn.trans look.sameInput.cacheEn)

theorem microStep_syncChange {s t : State} (hc : microStep s = .committed t) : SyncChange s t :=
  (microStep_commit_cases hc).elim (fun flac => flac.2.syncChange flac.1) fun unit => unit.2.syncChange unit.1

/-- Settles O49. -/
theorem modeChangesAreThoseOfTheTable : Obligations.ModeChangesAreThoseOfTheTable := by
  intro s parsed invalid rejected warned resynced
  have given : ∀ {u : State} (w : Warning), Relooked s u → resync w u = resynced w := fun w look => resync_eq look w
  refine ⟨fun t hc => ?_, fun synced rej => ?_, fun seeking rej => ?_,
    fun fixed seeking h u first second => ?_, fun native h first enough noFooter => ?_⟩
  · have clash : ∀ {m : Mode}, m = .seeking → m = .synced → False := fun a b => by rw [a] at b; cases b
    cases microStep_syncChange hc with
    | passed u look seeking unparsed after =>
      subst after
      exact ⟨fun synced => (clash seeking synced).elim,
        fun _ synced => (clash (look.sameInput.mode.trans seeking) synced).elim,
        fun synced => (clash seeking synced).elim, fun _ _ _ => ⟨fun _ => ⟨look.atCursor.outQ_eq,
          congrArg (List.drop 1) look.sameInput.buf⟩, fun p => absurd p unparsed⟩⟩
    | lost u look synced unparsed after =>
      subst after
      exact ⟨fun _ _ => ⟨fun _ => given _ look, fun p => absurd p unparsed⟩, fun _ gained => (clash rfl gained).elim,
        fun _ kept => (clash rfl kept).elim, fun seeking => (clash seeking synced).elim⟩
    | refuted u look headed native after =>
      subst after
      refine ⟨fun synced _ => ⟨fun un => absurd headed un, fun _ => ⟨native synced, ?_⟩⟩,
        fun _ gained => (clash rfl gained).elim, fun _ kept => (clash rfl kept).elim,
        fun _ _ _ => ⟨fun un => absurd headed un, fun _ => given _ look⟩⟩
      rw [if_pos (native synced)]
      exact given _ look
    | gained seeking mode cacheEn =>
      exact ⟨fun synced => (clash seeking synced).elim, fun _ _ => cacheEn, fun synced => (clash seeking synced).elim,
        fun _ lost => (clash lost mode).elim⟩
    | kept steady mode cacheEn =>
      refine ⟨fun synced lost => (clash (mode.symm.trans lost) synced).elim,
        fun seeking gained => (clash seeking (mode.symm.trans gained)).elim, fun _ _ => cacheEn,
        fun seeking _ running => ?_⟩
      rcases steady with synced | flushing
      · exact (clash seeking synced).elim
      · rw [running] at flushing
        cases flushing
  · obtain ⟨u, look, -, step⟩ := microStep_rejected rej
    rw [step, passByte_synced synced]
    exact congrArg _ (given _ look)
  · obtain ⟨u, ⟨k, rfl⟩, same, step⟩ := microStep_rejected rej
    rw [passByte_seeking seeking] at step
    exact ⟨k, fun off => congrArg State.lastKey (same off), step⟩
  · have look := relooked_of_decodeAt_eq first
    have nonempty : s.buf ≠ [] := nonempty_of_decodeAt_answer (by simp [first])
    rw [microStep_fixed fixed nonempty, fixedStep_seeking first seeking, confirmUnit_invalid second]
    exact congrArg _ (given _ (look.trans (decodeAt_state _ _)))
  · have nonempty : s.buf ≠ [] := nonempty_of_decodeFlac_answer (si := none) (by simp [first])
    rw [microStep_flac native nonempty, flacStep_noFooter first enough noFooter]
    exact congrArg _ (given _ (decodeFlac_state _ _ _))

end Sys2Proof.Machine

/-! A unit is accepted while SEEKING when a second header decodes right behind it, while SYNCED on its own, and
at flush anyway (R140 to R148, R156 to R163, R205). -/

namespace Sys2Proof.Machine

set_option Elab.async false

/-! ### The decoder codecSel selects is its row's unit -/

theorem mapResult_row {α β : Type} (f : α → β) (r : DecodeResult α) :
    (∀ y, mapResult f r = .parsed y ↔ ∃ x, y = f x ∧ r = .parsed x)
      ∧ ∀ k, mapResult f r = .need k ↔ r = .need k := by
  refine ⟨fun y => mapResult_eq_parsed.trans (exists_congr fun x => ?_), fun k => mapResult_eq_need⟩
  rw [and_comm, eq_comm (a := y)]

theorem decodeAt_rows (s : State) (off : Nat) :
    (s.codecSel = 0 → ∃ r,
        exec (.mpegHdr (s.buf.drop off)) s = .next { (decodeAt off s).2 with result := .mpeg r } ∧
        (∀ h, (decodeAt off s).1 = .parsed h ↔ ∃ m, h = .mpeg m ∧ r = .parsed m) ∧
        (∀ k, (decodeAt off s).1 = .need k ↔ r = .need k)) ∧
    (s.codecSel = 1 → ∃ r,
        exec (.adtsHdr (s.buf.drop off)) s = .next { (decodeAt off s).2 with result := .adts r } ∧
        (∀ h, (decodeAt off s).1 = .parsed h ↔ ∃ m, h = .adts m ∧ r = .parsed m) ∧
        (∀ k, (decodeAt off s).1 = .need k ↔ r = .need k)) ∧
    (s.codecSel = 3 → ∃ r,
        exec (.oggPage (s.buf.drop off)) s = .next { (decodeAt off s).2 with result := .page r } ∧
        (∀ h, (decodeAt off s).1 = .parsed h ↔ ∃ m, h = .page m ∧ r = .parsed m) ∧
        (∀ k, (decodeAt off s).1 = .need k ↔ r = .need k)) := by
  refine ⟨fun mpeg => ?_, fun adts => ?_, fun ogg => ?_⟩
  · rw [decodeAt_of_mpeg off (by rw [mpeg]; rfl)]
    exact ⟨_, exec_mpegHdr _ s, mapResult_row _ _⟩
  · rw [decodeAt_of_adts off (by rw [adts]; rfl)]
    exact ⟨_, exec_adtsHdr _ s, mapResult_row _ _⟩
  · rw [decodeAt_of_page off (by rw [ogg]; decide) (by rw [ogg]; decide)]
    exact ⟨_, exec_oggPage _ s, mapResult_row _ _⟩

section
variable {s t u v : State} {h h2 : UnitHeader}

theorem relooked_lastKey (look : Relooked s u) : u = { s with lastKey := u.lastKey } := by
  obtain ⟨k, rfl⟩ := look
  rfl

/-! ### Outside a flush -/

/-- Passing a byte queues warnings alone. -/
theorem resync_warnings (empty : s.outQ = []) (look : Relooked s u) (w : Warning) :
    ∀ e ∈ (resync w u).outQ, isWarning e = true := by
  rw [resync_eq look, empty, List.nil_append]
  intro e mem
  split at mem
  · obtain rfl := List.mem_singleton.mp mem
    rfl
  · cases mem

/-- R144: outside a flush a unit is accepted from SEEKING with the header behind it, and leaves SYNCED. -/
theorem FixedCommit.seeking_confirmed (commit : FixedCommit s t) (seeking : s.mode = .seeking)
    (running : s.flushing = false) (empty : s.outQ = []) (unit : ∃ e ∈ t.outQ, isWarning e = false) :
    ∃ h h2, (decodeAt 0 s).1 = .parsed h ∧ (decodeAt (unitLength h) s).1 = .parsed h2 ∧
      t.mode = .synced ∧ unitLength h ≤ s.buf.length ∧ t.buf = s.buf.drop (unitLength h) := by
  obtain ⟨e, mem, noWarning⟩ := unit
  have warned : ∀ {w u}, Relooked s u → e ∉ (resync w u).outQ := fun look queued =>
    Bool.false_ne_true (noWarning.symm.trans (resync_warnings empty look _ e queued))
  have notFlushing : s.flushing ≠ true := ne_true_of_eq_false running
  cases commit with
  | skipped u look _ _ =>
    have none : (advanceBy 1 u).outQ = [] := look.atCursor.outQ_eq.trans empty
    rw [none] at mem
    cases mem
  | lost u look _ _ => exact absurd mem (warned look)
  | refuted h u look _ _ => exact absurd mem (warned look)
  | confirmed h h2 u look _ parsed second inside =>
    refine ⟨h, h2, parsed, second, (acceptUnit_sync h true (gainSync u)).1, inside, ?_⟩
    rw [acceptUnit_buf]
    exact congrArg (List.drop _) look.sameInput.buf
  | whole h u look synced _ =>
    rw [seeking] at synced
    cases synced
  | unconfirmed h u look _ flushing => exact absurd flushing notFlushing
  | cut h u look flushing _ => exact absurd flushing notFlushing

/-! ### A header at the cursor and what stands behind its unit -/

theorem microStep_confirmed (fixed : s.codecSel ≠ 2) (first : decodeAt 0 s = (.parsed h, u))
    (seeking : s.mode = .seeking) (second : decodeAt (unitLength h) u = (.parsed h2, v)) :
    microStep s = .committed (acceptUnit h true (gainSync v)) := by
  rw [microStep_fixed fixed (nonempty_of_decodeAt_answer (by simp [first])), fixedStep_seeking first seeking,
    confirmUnit_parsed second]

theorem syncedUnit_whole (inside : unitLength h ≤ s.buf.length) :
    syncedUnit h s = .committed (acceptUnit h true s) := by
  rw [syncedUnit, if_neg (Nat.not_lt.mpr inside)]

theorem syncedUnit_cut (flushing : s.flushing = true) (beyond : s.buf.length < unitLength h) :
    syncedUnit h s = .committed (acceptTruncated h s) := by
  rw [syncedUnit, if_pos beyond, if_pos flushing]

theorem microStep_whole (fixed : s.codecSel ≠ 2) (first : decodeAt 0 s = (.parsed h, u))
    (synced : s.mode = .synced) (inside : unitLength h ≤ s.buf.length) :
    microStep s = .committed (acceptUnit h true u) := by
  have same := (relooked_of_decodeAt_eq first).sameInput
  rw [microStep_fixed fixed (nonempty_of_decodeAt_answer (by simp [first])), fixedStep_synced first synced,
    syncedUnit_whole (by rw [same.buf]; exact inside)]

/-- R157: at flush a unit that ends where too few bytes follow is taken unconfirmed. -/
theorem microStep_unconfirmed {k : Nat} (fixed : s.codecSel ≠ 2) (first : decodeAt 0 s = (.parsed h, u))
    (flushing : s.flushing = true) (seeking : s.mode = .seeking) (inside : unitLength h ≤ s.buf.length)
    (second : decodeAt (unitLength h) u = (.need k, v)) :
    microStep s = .committed (acceptUnit h false v) := by
  have same := ((relooked_of_decodeAt_eq first).trans (relooked_of_decodeAt_eq second)).sameInput
  rw [microStep_fixed fixed (nonempty_of_decodeAt_answer (by simp [first])), fixedStep_seeking first seeking,
    confirmUnit_short second (same.flushing.trans flushing), same.buf, if_neg (Nat.not_lt.mpr inside)]

/-- R157: at flush a unit longer than the buffer is cut off. -/
theorem microStep_cut (fixed : s.codecSel ≠ 2) (first : decodeAt 0 s = (.parsed h, u))
    (flushing : s.flushing = true) (beyond : s.buf.length < unitLength h) :
    microStep s = .committed (acceptTruncated h u) := by
  have same := (relooked_of_decodeAt_eq first).sameInput
  have short : u.buf.length < unitLength h := by rw [same.buf]; exact beyond
  rw [microStep_fixed fixed (nonempty_of_decodeAt_answer (by simp [first]))]
  cases mode : s.mode with
  | synced => rw [fixedStep_synced first mode, syncedUnit_cut (same.flushing.trans flushing) short]
  | seeking =>
    obtain ⟨k, need⟩ := decodeAt_need_of_length_le (unitLength h) u short.le
    have second : decodeAt (unitLength h) u = (.need k, u) := Prod.ext need (decodeAt_past_end short.le)
    rw [fixedStep_seeking first mode, confirmUnit_short second (same.flushing.trans flushing), if_pos short]

end

/-- Settles O51. -/
theorem seekingUnitNeedsSecondHeader : Obligations.SeekingUnitNeedsSecondHeader := by
  intro s fixed L accepted truncated
  have length : ∀ h, L h = unitLength h := fun h => by cases h <;> rfl
  have accept : ∀ h c u, accepted h c u = acceptUnit h c u := fun h c u => by cases h <;> rfl
  have cut : ∀ h u, truncated h (decide (u.mode = .synced)) u = acceptTruncated h u := fun h u => by
    cases h with
    | mpeg m => rfl
    | adts a => rfl
    | page p => exact (truncatedPage_eq p u).symm
  simp only [length, accept]
  refine ⟨decodeAt_rows s, fun t seeking running empty hc unit => ?_, fun h u first => ?_⟩
  · have commit := (microStep_commit_cases hc).resolve_left fun flac => fixed flac.1
    exact commit.2.seeking_confirmed seeking running empty unit
  have look := relooked_of_decodeAt_eq first
  have mode := look.sameInput.mode
  refine ⟨relooked_lastKey look, fun seeking h2 v second => ?_, fun synced inside => ?_,
    fun flushing seeking inside k v second => ?_, fun flushing beyond => ?_⟩
  · exact ⟨relooked_lastKey (look.trans (relooked_of_decodeAt_eq second)),
      microStep_confirmed fixed first seeking second, (acceptUnit_sync h true (gainSync v)).1⟩
  · exact ⟨microStep_whole fixed first synced inside, (acceptUnit_sync h true u).1.trans (mode.trans synced)⟩
  · have look2 := look.trans (relooked_of_decodeAt_eq second)
    exact ⟨relooked_lastKey look2, microStep_unconfirmed fixed first flushing seeking inside second,
      (acceptUnit_sync h false v).1.trans (look2.sameInput.mode.trans seeking)⟩
  · rw [← mode, cut]
    exact ⟨microStep_cut fixed first flushing beyond, (acceptTruncated_sync h u).1⟩

end Sys2Proof.Machine

/-! Draining a stream pushed in two chunks and whole (R69, R85): a drain outside a flush as a relation, one rule
for each turn of PULL's loop, and what more input behind the buffer does to it. -/

namespace Sys2Proof.Machine

set_option Elab.async false

/-- Outside a flush PULL to the NEED returns these events and leaves this state. -/
inductive DrainsTo : State → List Event → State → Prop where
  | need {s : State} {n : Nat} (empty : s.outQ = []) (suspended : microStep s = .suspend n) :
      DrainsTo s [] { s with resp := some (.need n) }
  | event {s t : State} {e : Event} {rest es : List Event} (queued : s.outQ = e :: rest)
      (more : DrainsTo { s with outQ := rest, resp := some (.event e) } es t) : DrainsTo s (e :: es) t
  | step {s v t : State} {es : List Event} (empty : s.outQ = []) (committed : microStep s = .committed v)
      (more : DrainsTo v es t) : DrainsTo s es t

section
variable {s t : State} {es : List Event}

/-! ### The relation is the drain -/

theorem exec_pull_drainsTo (conf : s.configured = true) (running : s.flushing = false)
    (pull : exec .pull s = .next t) :
    ((∀ e, t.resp ≠ some (.event e)) ∧ DrainsTo s [] t)
      ∨ ∃ e, t.resp = some (.event e) ∧ t.configured = true ∧ t.flushing = false
        ∧ ∀ {es u}, DrainsTo t es u → DrainsTo s (e :: es) u := by
  rw [exec_pull conf] at pull
  obtain ⟨u, ⟨conf', running', back⟩, ⟨e, rest, queued, rfl⟩ | ⟨n, empty, suspended, rfl⟩ | ⟨v, -, flushed, -⟩⟩ :=
    pullLoop_next (P := fun u => u.configured = true ∧ u.flushing = false
        ∧ ∀ {es w}, DrainsTo u es w → DrainsTo s es w)
      (fun u v ⟨c, r, back⟩ empty committed =>
        have same := microStep_sameControl u v committed
        ⟨same.configured.trans c, same.flushing.trans r, fun d => back (.step empty committed d)⟩)
      _ s t ⟨conf, running, id⟩ pull
  · exact .inr ⟨e, rfl, conf', running', fun d => back (.event queued d)⟩
  · exact .inl ⟨fun e => by simp, back (.need empty suspended)⟩
  · obtain ⟨flushing, -⟩ := microStep_flushed u v flushed
    rw [running'] at flushing
    cases flushing

theorem drainsTo_of_drain {pulls : Nat} (conf : s.configured = true) (running : s.flushing = false)
    (drained : drain pulls s = some (es, t)) : DrainsTo s es t := by
  induction pulls generalizing s es with
  | zero => cases drained
  | succ n ih =>
    obtain ⟨v, r, pull, -, -⟩ := pullLoop_answers (s := s) (turns := s.buf.length + 1 + 1) (.inl (by omega))
    rw [← exec_pull conf] at pull
    rcases exec_pull_drainsTo conf running pull with ⟨noEvent, here⟩ | ⟨e, event, conf', running', back⟩
    · have last : drain (n + 1) s = some ([], v) := by
        rw [drain, pull]
        simp only
      rw [last] at drained
      cases drained
      exact here
    · rw [drain_event n pull event, Option.map_eq_some_iff] at drained
      obtain ⟨⟨es', t'⟩, drained', same⟩ := drained
      cases same
      exact back (ih conf' running' drained')

theorem DrainsTo.drain (d : DrainsTo s es t) (conf : s.configured = true) :
    ∃ pulls, drain pulls s = some (es, t) := by
  induction d with
  | need empty suspended =>
    have pull := (exec_pull conf).trans (pullLoop_suspended _ empty suspended)
    exact ⟨1, by simp [Machine.drain, pull]⟩
  | event queued more ih =>
    obtain ⟨k, drained⟩ := ih conf
    have pull := (exec_pull conf).trans (pullLoop_queued _ queued)
    exact ⟨k + 1, by rw [drain_event k pull rfl, drained]; rfl⟩
  | step empty committed more ih =>
    obtain ⟨k, drained⟩ := ih ((microStep_sameControl _ _ committed).configured.trans conf)
    exact ⟨k, (drain_congr k (exec_pull_committed conf empty committed)).trans drained⟩

/-! ### What a drain leaves -/

/-- A drain keeps the configuration, and the buffer grows no longer. -/
theorem DrainsTo.kept (d : DrainsTo s es t) :
    t.configured = s.configured ∧ t.flushing = s.flushing ∧ t.par = s.par ∧ t.buf.length ≤ s.buf.length := by
  induction d with
  | need empty suspended => exact ⟨rfl, rfl, rfl, le_rfl⟩
  | event queued more ih => exact ih
  | step empty committed more ih =>
    obtain ⟨conf, running, par, shorter⟩ := ih
    have same := microStep_sameControl _ _ committed
    obtain ⟨n, -, buf, -⟩ := (microStep_commits committed).consumed
    rw [buf, List.length_drop] at shorter
    exact ⟨conf.trans same.configured, running.trans same.flushing, par.trans same.par, by omega⟩

/-! ### More input -/

theorem microStep_committed_behind {v : State} (running : s.flushing = false) (committed : microStep s = .committed v)
    (d : Bytes) (r : Option Response) : microStep (behind d r s) = .committed (behind d r v) := by
  have ext := microStep_extends (d := d) (r := r) running
  rwa [committed] at ext

/-- The response in the latch is no input of a drain. -/
theorem DrainsTo.resp (d : DrainsTo s es t) (running : s.flushing = false) (r : Option Response) :
    DrainsTo { s with resp := r } es t := by
  induction d with
  | need empty suspended => exact .need empty (microStep_suspend_resp r suspended)
  | event queued more ih => exact .event queued more
  | step empty committed more ih =>
    have committed' := microStep_committed_behind running committed [] r
    rw [behind_nil, behind_nil] at committed'
    exact .step empty committed' (ih ((microStep_sameControl _ _ committed).flushing.trans running))

/-- Where the second chunk comes after the NEED or before the first PULL, the same micro-steps commit. -/
theorem DrainsTo.behind {eb : List Event} {u : State} {b : Bytes} {r : Option Response} (first : DrainsTo s es t)
    (running : s.flushing = false) (second : DrainsTo (behind b r t) eb u) (r' : Option Response) :
    DrainsTo (behind b r' s) (es ++ eb) u := by
  induction first generalizing r' with
  | need empty suspended => exact second.resp running r'
  | event queued more ih => exact .event queued (ih running second _)
  | step empty committed more ih =>
    exact .step empty (microStep_committed_behind running committed b r')
      (ih ((microStep_sameControl _ _ committed).flushing.trans running) second r')

end

/-! ### PUSH with room for the chunk -/

theorem exec_push_whole {s : State} {d : Bytes} (conf : s.configured = true) (running : s.flushing = false)
    (room : s.buf.length + d.length ≤ s.par.bufCap) :
    exec (.push d) s = .next (behind d (some (.accepted d.length)) s) := by
  have all : min d.length (s.par.bufCap - s.buf.length) = d.length := by omega
  refine (execPush_accepted d s conf running).trans ?_
  rw [all, List.take_length]
  rfl

theorem behind_behind (a b : Bytes) (r r' : Option Response) (s : State) :
    behind b r' (behind a r s) = behind (a ++ b) r' s := by
  simp [behind, BitVec.ofNat_add, BitVec.add_assoc]

/-- Settles O57. -/
theorem chunkingDoesNotChangeTheEvents : Obligations.ChunkingDoesNotChangeTheEvents := by
  intro s s1 t t1 u s2 a b ea eb j k conf running room pushA drainA pushB drainB pushAB
  rw [exec_push_whole conf running (by omega)] at pushA
  cases pushA
  have first := drainsTo_of_drain (s := behind a _ s) conf running drainA
  obtain ⟨conf', running', par, shorter⟩ := first.kept
  have configured : t.configured = true := conf'.trans conf
  have notFlushing : t.flushing = false := running'.trans running
  have grown : t.buf.length ≤ s.buf.length + a.length := shorter.trans_eq List.length_append
  have par' : t.par = s.par := par
  rw [exec_push_whole configured notFlushing (by rw [par']; omega)] at pushB
  cases pushB
  have second := drainsTo_of_drain (s := behind b _ t) configured notFlushing drainB
  rw [exec_push_whole conf running (by rw [List.length_append]; omega)] at pushAB
  cases pushAB
  have both := first.behind running second (some (.accepted (a ++ b).length))
  rw [behind_behind] at both
  exact both.drain conf

end Sys2Proof.Machine

/-! The bytes of a frame header and the record a decoder makes of them, and the MPEG header (R100 to R109). -/

namespace Sys2Proof.Machine

set_option Elab.async false

/-! ### Bytes by their fields -/

theorem field_lt (x : Byte) (hi lo : Nat) : field x hi lo < 2 ^ (hi + 1 - lo) :=
  Nat.mod_lt _ (Nat.two_pow_pos _)

theorem bit_toNat (x : Byte) (i : Nat) : (bit x i).toNat = x.toNat / 2 ^ i % 2 :=
  Nat.toNat_testBit x.toNat i

/-- A byte put together from its fields. -/
theorem bitsByte_eq {x : Byte} {v : Nat} (same : v = x.toNat) : bitsByte v = x := by
  rw [same, bitsByte_toNat]

/-- The first bytes of a sequence that has them, one by one. -/
theorem take_eq_byteAt {b : Bytes} {n : Nat} (inside : n ≤ b.length) : b.take n = (List.range n).map (byteAt b) := by
  refine List.ext_getElem (by simp [inside]) fun i here _ => ?_
  have bound : i < b.length := here.trans_le (List.length_take_le' n b)
  simp [byteAt, bound]

/-! ### The MPEG tables (R102 to R108) -/

theorem mpegVersion_isSome : ∀ c < 4, (mpegVersion c).isSome = (c != 1) := by decide

theorem mpegLayer_isSome : ∀ c < 4, (mpegLayer c).isSome = (c != 0) := by decide

theorem mpegEmphasis_isSome : ∀ c < 4, (mpegEmphasis c).isSome = (c != 2) := by decide

theorem mpegBitrate_isSome (v : MpegVersion) (l : MpegLayer) :
    ∀ c < 16, (mpegBitrate v l c).isSome = (c != 0 && c != 15) := by
  cases v <;> cases l <;> decide

theorem mpegSampleRate_isSome (v : MpegVersion) : ∀ c < 4, (mpegSampleRate v c).isSome = (c != 3) := by
  cases v <;> decide

theorem mpegVersionCode_mpegVersion : ∀ c < 4, ∀ v ∈ mpegVersion c, mpegVersionCode v = c := by decide

theorem mpegLayerCode_mpegLayer : ∀ c < 4, ∀ l ∈ mpegLayer c, mpegLayerCode l = c := by decide

theorem mpegEmphasisCode_mpegEmphasis : ∀ c < 4, ∀ e ∈ mpegEmphasis c, mpegEmphasisCode e = c := by decide

theorem mpegChannelMode_code : ∀ c < 4, mpegChannelCode (mpegChannelMode c) = c
    ∧ (mpegChannelMode c = .singleChannel ↔ c = 3) := by decide

/-- R103's columns are those of its table. -/
theorem mpegBitrate_table (v : MpegVersion) (l : MpegLayer) : ∀ c < 16,
    (bitrateRows.getD c []).getD (bitrateColumnNumber v l) 0 = (mpegBitrate v l c).getD 0 := by
  cases v <;> cases l <;> decide

theorem mpegSampleRate_table (v : MpegVersion) : ∀ c < 4,
    (sampleRateRows.getD c []).getD (sampleRateColumnNumber v) 0 = (mpegSampleRate v c).getD 0 := by
  cases v <;> decide

theorem mpegSamples_eq (v : MpegVersion) (l : MpegLayer) : mpegSamples v l
    = if l = .layer1 then 384 else if l = .layer3 ∧ v ≠ .mpeg1 then 576 else 1152 := by
  cases v <;> cases l <;> rfl

/-- The highest of a version's sample rates (R104). -/
def mpegHighestRate : MpegVersion → Nat
  | .mpeg1 => 48000
  | .mpeg2 => 24000
  | .mpeg25 => 12000

theorem mpegHighestRate_ge {v : MpegVersion} {index rate : Nat} (h : mpegSampleRate v index = some rate) :
    rate ≤ mpegHighestRate v := by
  cases v with
  | mpeg1 => exact (by decide : ∀ x ∈ [44100, 48000, 32000], x ≤ 48000) _ (List.mem_of_getElem? h)
  | mpeg2 => exact (by decide : ∀ x ∈ [22050, 24000, 16000], x ≤ 24000) _ (List.mem_of_getElem? h)
  | mpeg25 => exact (by decide : ∀ x ∈ [11025, 12000, 8000], x ≤ 12000) _ (List.mem_of_getElem? h)

/-- At its highest sample rate every column of R103's table fills 24 bytes. -/
theorem mpegBitrate_least {v : MpegVersion} {l : MpegLayer} {index bitrate : Nat}
    (h : mpegBitrate v l index = some bitrate) : 24 * mpegHighestRate v ≤ 125 * bitrate * mpegSamples v l := by
  have column : ∀ x ∈ bitrateColumn v l, 24 * mpegHighestRate v ≤ 125 * x * mpegSamples v l := by
    cases v <;> cases l <;> decide
  unfold mpegBitrate at h
  split at h
  · cases h
  · exact column bitrate (List.mem_of_getElem? h)

theorem le_mpegFrameLength {v : MpegVersion} {l : MpegLayer} {i j bitrate rate : Nat} (padding : Nat)
    (hb : mpegBitrate v l i = some bitrate) (hr : mpegSampleRate v j = some rate) :
    24 ≤ mpegFrameLength bitrate (mpegSamples v l) rate padding := by
  have quotient : 24 ≤ 125 * bitrate * mpegSamples v l / rate :=
    (Nat.le_div_iff_mul_le (mpegSampleRate_bounds hr).1).mpr
      ((Nat.mul_le_mul_left 24 (mpegHighestRate_ge hr)).trans (mpegBitrate_least hb))
  exact quotient.trans (Nat.le_add_right _ _)

/-- R108's floor. -/
theorem mpegFrameLength_eq_floor (bitrate samples rate padding : Nat) :
    (mpegFrameLength bitrate samples rate padding : Int)
      = ⌊(125 * bitrate * samples : Rat) / (rate : Rat) + (padding : Rat)⌋ := by
  have quotient := Rat.floor_natCast_div_natCast (125 * bitrate * samples) rate
  push_cast at quotient
  rw [Int.floor_add_natCast, quotient, mpegFrameLength]
  push_cast
  rfl

/-! ### The MPEG header's fields -/

/-- What the record of a MPEG header holds of its bytes. -/
structure MpegDecoded (b : Bytes) (h : MpegHeader) : Prop where
  sync : byteAt b 0 = 0xFF ∧ field (byteAt b 1) 7 5 = 7
  headerLength : h.headerLength = 4
  version : mpegVersion (field (byteAt b 1) 4 3) = some h.version
  layer : mpegLayer (field (byteAt b 1) 2 1) = some h.layer
  protection : h.protection = bit (byteAt b 1) 0
  bitrateIndex : h.bitrateIndex = (byteAt b 2).extractLsb' 4 4
  bitrate : mpegBitrate h.version h.layer (field (byteAt b 2) 7 4) = some h.bitrate
  sampleRateIndex : h.sampleRateIndex = (byteAt b 2).extractLsb' 2 2
  sampleRate : mpegSampleRate h.version (field (byteAt b 2) 3 2) = some h.sampleRate
  padding : h.padding = bit (byteAt b 2) 1
  paddingBytes : h.paddingBytes = mpegPaddingBytes h.layer h.padding
  privateBit : h.privateBit = bit (byteAt b 2) 0
  channelMode : h.channelMode = mpegChannelMode (field (byteAt b 3) 7 6)
  modeExtension : h.modeExtension = (byteAt b 3).extractLsb' 4 2
  copyright : h.copyright = bit (byteAt b 3) 3
  original : h.original = bit (byteAt b 3) 2
  emphasis : mpegEmphasis (field (byteAt b 3) 1 0) = some h.emphasis
  channels : h.channels = if field (byteAt b 3) 7 6 = 3 then 1 else 2
  samples : h.samples = mpegSamples h.version h.layer
  frameLength : h.frameLength = mpegFrameLength h.bitrate h.samples h.sampleRate h.paddingBytes
  bitDepth : h.bitDepth = none

theorem mpegFields_decoded {b : Bytes} {h : MpegHeader} (fields : mpegFields b = some h) : MpegDecoded b h := by
  unfold mpegFields at fields
  simp only at fields
  split at fields
  · next sync =>
    split at fields
    · next version layer =>
      split at fields
      · next bitrate rate emphasis =>
        split at fields
        · cases fields
        · cases fields
          exact { sync, version, layer, bitrate, sampleRate := rate, emphasis, headerLength := rfl, protection := rfl,
                  bitrateIndex := rfl, sampleRateIndex := rfl, padding := rfl, paddingBytes := rfl, privateBit := rfl,
                  channelMode := rfl, modeExtension := rfl, copyright := rfl, original := rfl, channels := rfl,
                  samples := rfl, frameLength := rfl, bitDepth := rfl }
      · cases fields
    · cases fields
  · cases fields

theorem mpegReserved_eq_false_iff (b : Bytes) : mpegReserved b = false ↔
    (byteAt b 0 = 0xFF ∧ field (byteAt b 1) 7 5 = 7) ∧ field (byteAt b 1) 4 3 ≠ 1 ∧ field (byteAt b 1) 2 1 ≠ 0
      ∧ (field (byteAt b 2) 7 4 ≠ 0 ∧ field (byteAt b 2) 7 4 ≠ 15) ∧ field (byteAt b 2) 3 2 ≠ 3
      ∧ field (byteAt b 3) 1 0 ≠ 2 := by
  simp [mpegReserved, and_assoc]

/-- R66's reserved headers are those the decoder's checks refuse. -/
theorem mpegFields_isSome (b : Bytes) : (mpegFields b).isSome = true ↔ mpegReserved b = false := by
  have v := mpegVersion_isSome _ (field_lt (byteAt b 1) 4 3)
  have l := mpegLayer_isSome _ (field_lt (byteAt b 1) 2 1)
  have e := mpegEmphasis_isSome _ (field_lt (byteAt b 3) 1 0)
  have r := fun v l => mpegBitrate_isSome v l _ (field_lt (byteAt b 2) 7 4)
  have f := fun v => mpegSampleRate_isSome v _ (field_lt (byteAt b 2) 3 2)
  rw [mpegReserved_eq_false_iff]
  constructor
  · intro some
    obtain ⟨h, fields⟩ := Option.isSome_iff_exists.mp some
    have d := mpegFields_decoded fields
    rw [d.version] at v
    rw [d.layer] at l
    rw [d.emphasis] at e
    have r := r h.version h.layer
    rw [d.bitrate] at r
    have f := f h.version
    rw [d.sampleRate] at f
    simp at v l e r f
    exact ⟨d.sync, v, l, r, f, e⟩
  · rintro ⟨sync, version, layer, bitrate, rate, emphasis⟩
    obtain ⟨v, hv⟩ := Option.isSome_iff_exists.mp (v.trans (by simpa using version))
    obtain ⟨l, hl⟩ := Option.isSome_iff_exists.mp (l.trans (by simpa using layer))
    obtain ⟨e, he⟩ := Option.isSome_iff_exists.mp (e.trans (by simpa using emphasis))
    obtain ⟨x, hb⟩ := Option.isSome_iff_exists.mp ((r v l).trans (by simpa using bitrate))
    obtain ⟨y, hr⟩ := Option.isSome_iff_exists.mp ((f v).trans (by simpa using rate))
    have length := le_mpegFrameLength (mpegPaddingBytes l (bit (byteAt b 2) 1)) hb hr
    unfold mpegFields
    simp only [if_pos sync, hv, hl, hb, hr, he]
    rw [if_neg (by omega)]
    rfl

/-! ### The record holds every header bit -/

theorem mpegByte1_fields {x : Byte} (sync : field x 7 5 = 7) :
    bitsByte (0xE0 + field x 4 3 * 8 + field x 2 1 * 2 + (bit x 0).toNat) = x := by
  refine bitsByte_eq ?_
  rw [bit_toNat]
  simp only [field] at sync ⊢
  omega

theorem mpegByte2_fields (x : Byte) : bitsByte ((x.extractLsb' 4 4).toNat * 16 + (x.extractLsb' 2 2).toNat * 4
    + (bit x 1).toNat * 2 + (bit x 0).toNat) = x := by
  refine bitsByte_eq ?_
  rw [bit_toNat, bit_toNat, toNat_extractLsb'_eq_field x 7 4, toNat_extractLsb'_eq_field x 3 2]
  simp only [field]
  omega

theorem mpegByte3_fields (x : Byte) : bitsByte (field x 7 6 * 64 + (x.extractLsb' 4 2).toNat * 16
    + (bit x 3).toNat * 8 + (bit x 2).toNat * 4 + field x 1 0) = x := by
  refine bitsByte_eq ?_
  rw [bit_toNat, bit_toNat, toNat_extractLsb'_eq_field x 5 4]
  simp only [field]
  omega

section
variable {b : Bytes} {h : MpegHeader}

theorem mpegHeaderBytes_decoded (long : 4 ≤ b.length) (d : MpegDecoded b h) : mpegHeaderBytes h = b.take 4 := by
  have version := mpegVersionCode_mpegVersion _ (field_lt _ _ _) _ d.version
  have layer := mpegLayerCode_mpegLayer _ (field_lt _ _ _) _ d.layer
  have emphasis := mpegEmphasisCode_mpegEmphasis _ (field_lt _ _ _) _ d.emphasis
  have mode := (mpegChannelMode_code _ (field_lt (byteAt b 3) 7 6)).1
  rw [take_eq_byteAt long, mpegHeaderBytes, version, layer, emphasis, d.protection, d.bitrateIndex, d.sampleRateIndex,
    d.padding, d.privateBit, d.channelMode, mode, d.modeExtension, d.copyright, d.original, mpegByte1_fields d.sync.2,
    mpegByte2_fields, mpegByte3_fields, ← d.sync.1]
  rfl

theorem MpegDecoded.bitrate_table (d : MpegDecoded b h) :
    (bitrateRows.getD h.bitrateIndex.toNat []).getD (bitrateColumnNumber h.version h.layer) 0 = h.bitrate := by
  rw [d.bitrateIndex, toNat_extractLsb'_eq_field _ 7 4, mpegBitrate_table _ _ _ (field_lt _ _ _), d.bitrate]
  rfl

theorem MpegDecoded.sampleRate_table (d : MpegDecoded b h) :
    (sampleRateRows.getD h.sampleRateIndex.toNat []).getD (sampleRateColumnNumber h.version) 0 = h.sampleRate := by
  rw [d.sampleRateIndex, toNat_extractLsb'_eq_field _ 3 2, mpegSampleRate_table _ _ (field_lt _ _ _), d.sampleRate]
  rfl

theorem MpegDecoded.channels_eq (d : MpegDecoded b h) :
    h.channels = if h.channelMode = .singleChannel then 1 else 2 := by
  have mode := (mpegChannelMode_code _ (field_lt (byteAt b 3) 7 6)).2
  rw [d.channels, d.channelMode]
  simp only [mode]

theorem MpegDecoded.frameLength_bounds (d : MpegDecoded b h) : 24 ≤ h.frameLength ∧ h.frameLength ≤ 2881 := by
  rw [d.frameLength, d.samples, d.paddingBytes]
  exact ⟨le_mpegFrameLength _ d.bitrate d.sampleRate, mpegFrameLength_le _ d.bitrate d.sampleRate⟩

end

/-! ### The decoder without its cache -/

theorem exec_mpegHdr_short {b : Bytes} {s : State} (short : b.length < 4) :
    exec (.mpegHdr b) s = .next { s with result := .mpeg (.need 4) } := by
  have need : decodeMpeg b s = (.need 4, s) := if_pos short
  rw [exec_mpegHdr, need]
  rfl

theorem exec_mpegHdr_fresh {b : Bytes} {s : State} (off : s.cacheEn = false) (long : 4 ≤ b.length) :
    exec (.mpegHdr b) s = .next { s with result := .mpeg ((mpegFields b).elim .invalid .parsed) } := by
  have miss : cacheLookup (mpegKey b) s = (none, s) := cacheLookup_miss (.inl off)
  have fresh : decodeMpeg b s = ((mpegFields b).elim .invalid .parsed, s) := by
    rw [decodeMpeg, if_neg (Nat.not_lt.mpr long), miss]
    cases fields : mpegFields b <;> simp only [cachedMpeg, Option.elim]
  rw [exec_mpegHdr, fresh]
  rfl

/-- Settles O25: the record is made of the bytes' fields, and the fields put together are the bytes. -/
theorem mpegHeaderDecodes : Obligations.MpegHeaderDecodes := by
  intro b s off
  refine ⟨exec_mpegHdr_short, fun long bad => ?_, fun long good => ?_⟩
  · have none : mpegFields b = none := by
      rw [← Option.not_isSome_iff_eq_none, mpegFields_isSome, bad]
      decide
    rw [exec_mpegHdr_fresh off long, none]
    rfl
  · obtain ⟨h, fields⟩ := Option.isSome_iff_exists.mp ((mpegFields_isSome b).mpr good)
    have d := mpegFields_decoded fields
    obtain ⟨least, most⟩ := d.frameLength_bounds
    refine ⟨h, by rw [exec_mpegHdr_fresh off long, fields]; rfl, mpegHeaderBytes_decoded long d, d.headerLength,
      d.bitrate_table, d.sampleRate_table, d.paddingBytes, d.channels_eq, d.samples.trans (mpegSamples_eq _ _), ?_,
      least, most, d.bitDepth⟩
    rw [d.frameLength]
    exact mpegFrameLength_eq_floor _ _ _ _

end Sys2Proof.Machine

/-! The ADTS header (R111 to R120). -/

namespace Sys2Proof.Machine

set_option Elab.async false

/-! ### The fixed fields -/

/-- R112's checks on bytes 0 and 1. -/
def AdtsSync (b : Bytes) : Prop :=
  byteAt b 0 = 0xFF ∧ field (byteAt b 1) 7 4 = 15 ∧ field (byteAt b 1) 2 1 = 0

/-- The channel configuration, over two bytes (R117). -/
def adtsConfig (b : Bytes) : Nat := field (byteAt b 2) 0 0 * 4 + field (byteAt b 3) 7 6

/-- The fixed fields of an ADTS header of this sample rate. -/
def adtsCommon (b : Bytes) (rate : Nat) : AdtsFixed where
  id := bit (byteAt b 1) 3
  layer := (byteAt b 1).extractLsb' 1 2
  protectionAbsent := bit (byteAt b 1) 0
  profile := (byteAt b 2).extractLsb' 6 2
  sampleRateIndex := (byteAt b 2).extractLsb' 2 4
  sampleRate := rate
  privateBit := bit (byteAt b 2) 1
  channelConfig := BitVec.ofNat 3 (adtsConfig b)
  channels := adtsChannels (adtsConfig b)
  original := bit (byteAt b 3) 5
  home := bit (byteAt b 3) 4

theorem adtsFixedOf_sync {b : Bytes} (sync : AdtsSync b) :
    adtsFixedOf b = (adtsSampleRate (field (byteAt b 2) 5 2)).map (adtsCommon b) := by
  unfold AdtsSync at sync
  unfold adtsFixedOf
  simp only [if_pos sync]
  cases adtsSampleRate (field (byteAt b 2) 5 2) <;> rfl

theorem adtsFixedOf_noSync {b : Bytes} (noSync : ¬AdtsSync b) : adtsFixedOf b = none := if_neg noSync

theorem adtsReserved_eq_false_iff (b : Bytes) : adtsReserved b = false ↔
    AdtsSync b ∧ field (byteAt b 2) 5 2 < 13 ∧ adtsHeaderLength (bit (byteAt b 1) 0) ≤ adtsFrameLength b := by
  simp [adtsReserved, AdtsSync, adtsHeaderLength, and_assoc]

theorem adtsConfig_lt (b : Bytes) : adtsConfig b < 8 := by
  have high := field_lt (byteAt b 2) 0 0
  have low := field_lt (byteAt b 3) 7 6
  unfold adtsConfig
  omega

theorem adtsChannels_table : ∀ c < 8, adtsChannels c = [0, 1, 2, 3, 4, 5, 6, 8].getD c 0 := by decide

/-- R119's two bytes are its number, big-endian. -/
theorem bigEndian_adtsSpecificConfig {profile index config : Nat} (p : profile < 4) (i : index < 16) (c : config < 8) :
    bigEndian (adtsSpecificConfig profile index config) = (profile + 1) * 2 ^ 11 + index * 2 ^ 7 + config * 2 ^ 3 := by
  simp only [adtsSpecificConfig, bigEndian, List.foldl_cons, List.foldl_nil, BitVec.toNat_ofNat]
  omega

/-! ### The record holds every header bit -/

theorem adtsByte1_fields {x : Byte} (sync : field x 7 4 = 15) :
    bitsByte (0xF0 + (bit x 3).toNat * 8 + (x.extractLsb' 1 2).toNat * 2 + (bit x 0).toNat) = x := by
  refine bitsByte_eq ?_
  rw [bit_toNat, bit_toNat, toNat_extractLsb'_eq_field x 2 1]
  simp only [field] at sync ⊢
  omega

/-- A field of two bytes gives the lowest bit of the one and the highest two of the other. -/
theorem adtsConfig_split (b : Bytes) : (BitVec.ofNat 3 (adtsConfig b)).toNat / 4 = field (byteAt b 2) 0 0
    ∧ (BitVec.ofNat 3 (adtsConfig b)).toNat % 4 = field (byteAt b 3) 7 6 := by
  have low := field_lt (byteAt b 3) 7 6
  rw [BitVec.toNat_ofNat, Nat.mod_eq_of_lt (adtsConfig_lt b), adtsConfig]
  omega

theorem adtsByte2_fields (x : Byte) : bitsByte ((x.extractLsb' 6 2).toNat * 64 + (x.extractLsb' 2 4).toNat * 4
    + (bit x 1).toNat * 2 + field x 0 0) = x := by
  refine bitsByte_eq ?_
  rw [bit_toNat, toNat_extractLsb'_eq_field x 7 6, toNat_extractLsb'_eq_field x 5 2]
  simp only [field]
  omega

theorem adtsByte3_fields (x : Byte) : bitsByte (field x 7 6 * 64 + (bit x 5).toNat * 32 + (bit x 4).toNat * 16
    + (bit x 3).toNat * 8 + (bit x 2).toNat * 4 + field x 1 0) = x := by
  refine bitsByte_eq ?_
  simp only [bit_toNat, field]
  omega

/-- The frame length over bytes 3 to 5 (R115). -/
theorem adtsFrameLength_split (b : Bytes) : adtsFrameLength b / 2 ^ 11 = field (byteAt b 3) 1 0
    ∧ bitsByte (adtsFrameLength b / 2 ^ 3 % 2 ^ 8) = byteAt b 4
    ∧ adtsFrameLength b % 2 ^ 3 = field (byteAt b 5) 7 5 := by
  have middle := (byteAt b 4).isLt
  have low := field_lt (byteAt b 5) 7 5
  refine ⟨?_, bitsByte_eq ?_, ?_⟩ <;> unfold adtsFrameLength <;> omega

/-- The buffer fullness over bytes 5 and 6 (R118). -/
def adtsFullness (b : Bytes) : Nat := field (byteAt b 5) 4 0 * 2 ^ 6 + field (byteAt b 6) 7 2

theorem adtsFullness_split (b : Bytes) : adtsFullness b / 2 ^ 6 = field (byteAt b 5) 4 0
    ∧ adtsFullness b % 2 ^ 6 = field (byteAt b 6) 7 2 ∧ adtsFullness b < 2 ^ 11 := by
  have high := field_lt (byteAt b 5) 4 0
  have low := field_lt (byteAt b 6) 7 2
  unfold adtsFullness
  omega

theorem adtsByte5_fields (x : Byte) : bitsByte (field x 7 5 * 32 + field x 4 0) = x := by
  refine bitsByte_eq ?_
  simp only [field]
  omega

theorem adtsByte6_fields (x : Byte) : bitsByte (field x 7 2 * 4 + field x 1 0) = x := by
  refine bitsByte_eq ?_
  simp only [field]
  omega

theorem adtsHeaderBytes_record {b : Bytes} (long : 7 ≤ b.length) (sync : AdtsSync b) (rate : Nat) :
    adtsHeaderBytes (adtsRecord (adtsCommon b rate) b) = b.take 7 := by
  obtain ⟨first, second, -⟩ := sync
  obtain ⟨configHigh, configLow⟩ := adtsConfig_split b
  obtain ⟨lengthHigh, lengthMiddle, lengthLow⟩ := adtsFrameLength_split b
  obtain ⟨fullHigh, fullLow, -⟩ := adtsFullness_split b
  change [(0xFF : Byte), _, _, bitsByte (_ + adtsFrameLength b / 2 ^ 11), _, bitsByte (_ + adtsFullness b / 2 ^ 6),
    bitsByte (adtsFullness b % 2 ^ 6 * 4 + field (byteAt b 6) 1 0)] = _
  simp only [adtsRecord, adtsCommon]
  rw [configHigh, configLow, lengthHigh, lengthMiddle, lengthLow, fullHigh, fullLow, adtsByte1_fields second,
    adtsByte2_fields, adtsByte3_fields, adtsByte5_fields, adtsByte6_fields, take_eq_byteAt long, ← first]
  rfl

/-! ### The decoder without its cache -/

section
variable {b : Bytes} {s : State}

theorem exec_adtsHdr_short (short : b.length < 7) :
    exec (.adtsHdr b) s = .next { s with result := .adts (.need 7) } := by
  have need : decodeAdts b s = (.need 7, s) := if_pos short
  rw [exec_adtsHdr, need]
  rfl

/-- R111's checks after the fixed fields, in their order. -/
def adtsChecked (b : Bytes) (f : AdtsFixed) : DecodeResult AdtsHeader :=
  if adtsFrameLength b < adtsHeaderLength f.protectionAbsent then .invalid
  else if b.length < adtsHeaderLength f.protectionAbsent then .need (adtsHeaderLength f.protectionAbsent)
  else .parsed (adtsRecord f b)

theorem exec_adtsHdr_fresh (off : s.cacheEn = false) (long : 7 ≤ b.length) :
    exec (.adtsHdr b) s = .next { s with result := .adts ((adtsFixedOf b).elim .invalid (adtsChecked b)) } := by
  have miss : cacheLookup (adtsKey b) s = (none, s) := cacheLookup_miss (.inl off)
  have fresh : decodeAdts b s = ((adtsFixedOf b).elim .invalid (adtsChecked b), s) := by
    rw [decodeAdts, if_neg (Nat.not_lt.mpr long), miss]
    simp only [cachedAdts, Option.orElse]
    cases fixed : adtsFixedOf b with
    | none => rfl
    | some f =>
      simp only [Option.elim, adtsChecked]
      split
      · rfl
      split <;> rfl
  rw [exec_adtsHdr, fresh]
  rfl

/-- With the reserved codes passed the decoder comes to the CRC's bytes. -/
theorem exec_adtsHdr_passed (off : s.cacheEn = false) (long : 7 ≤ b.length) (good : adtsReserved b = false) :
    ∃ rate, adtsSampleRate (field (byteAt b 2) 5 2) = some rate
      ∧ exec (.adtsHdr b) s = .next { s with result := .adts (
        if b.length < adtsHeaderLength (bit (byteAt b 1) 0) then .need (adtsHeaderLength (bit (byteAt b 1) 0))
        else .parsed (adtsRecord (adtsCommon b rate) b)) } := by
  obtain ⟨sync, index, enough⟩ := (adtsReserved_eq_false_iff b).mp good
  have rate : adtsSampleRate (field (byteAt b 2) 5 2) = some _ := List.getElem?_eq_getElem index
  refine ⟨_, rate, ?_⟩
  have checked : ∀ r, adtsChecked b (adtsCommon b r) = _ := fun r => if_neg (Nat.not_lt.mpr enough)
  rw [exec_adtsHdr_fresh off long, adtsFixedOf_sync sync, rate, Option.map_some, Option.elim_some, checked]
  rfl

theorem exec_adtsHdr_reserved (off : s.cacheEn = false) (long : 7 ≤ b.length) (bad : adtsReserved b = true) :
    exec (.adtsHdr b) s = .next { s with result := .adts .invalid } := by
  rw [exec_adtsHdr_fresh off long]
  by_cases sync : AdtsSync b
  · rw [adtsFixedOf_sync sync]
    cases rate : adtsSampleRate (field (byteAt b 2) 5 2) with
    | none => rfl
    | some r =>
      have index : field (byteAt b 2) 5 2 < 13 := (List.getElem?_eq_some_iff.mp rate).1
      have short : adtsFrameLength b < adtsHeaderLength (bit (byteAt b 1) 0) := by
        by_contra enough
        rw [(adtsReserved_eq_false_iff b).mpr ⟨sync, index, Nat.not_lt.mp enough⟩] at bad
        cases bad
      have checked : adtsChecked b (adtsCommon b r) = .invalid := if_pos short
      rw [Option.map_some, Option.elim_some, checked]
  · rw [adtsFixedOf_noSync sync]
    rfl

end

/-- Settles O26: the record is made of the bytes' fields, and the fields put together are the bytes. -/
theorem adtsHeaderDecodes : Obligations.AdtsHeaderDecodes := by
  intro b s off
  refine ⟨exec_adtsHdr_short, exec_adtsHdr_reserved off, fun long short good crc => ?_, fun long good whole => ?_⟩
  · obtain ⟨rate, -, run⟩ := exec_adtsHdr_passed off long good
    rw [run, crc]
    exact congrArg (fun r => Host.Outcome.next { s with result := .adts r }) (if_pos short)
  · obtain ⟨rate, indexed, run⟩ := exec_adtsHdr_passed off long good
    obtain ⟨sync, -, enough⟩ := (adtsReserved_eq_false_iff b).mp good
    have inside : ¬b.length < adtsHeaderLength (bit (byteAt b 1) 0) := by
      unfold adtsHeaderLength
      split <;> grind
    have config : (BitVec.ofNat 3 (adtsConfig b)).toNat = adtsConfig b := by
      rw [BitVec.toNat_ofNat, Nat.mod_eq_of_lt (adtsConfig_lt b)]
    rw [if_neg inside] at run
    refine ⟨_, run, adtsHeaderBytes_record long sync rate, ?_, rfl, ?_, ?_, ?_, rfl, rfl, ?_, enough,
      Nat.lt_succ_of_le (adtsFrameLength_le b), (adtsFullness_split b).2.2, field_lt (byteAt b 6) 1 0, rfl, rfl⟩
    · refine BitVec.eq_of_toNat_eq ?_
      exact (toNat_extractLsb'_eq_field (byteAt b 1) 2 1).trans sync.2.2
    · change (if adtsHeaderLength (bit (byteAt b 1) 0) = 9 then _ else _) = if bit (byteAt b 1) 0 = true then _ else _
      cases bit (byteAt b 1) 0 <;> rfl
    · rw [← toNat_extractLsb'_eq_field (byteAt b 2) 5 2] at indexed
      exact indexed
    · change adtsChannels (adtsConfig b) = List.getD _ (BitVec.ofNat 3 (adtsConfig b)).toNat 0
      rw [config]
      exact adtsChannels_table _ (adtsConfig_lt b)
    · exact bigEndian_adtsSpecificConfig (BitVec.isLt _) (BitVec.isLt _) (BitVec.isLt _)

end Sys2Proof.Machine

/-! The FLAC frame header (R121 to R132). -/

namespace Sys2Proof.Machine

set_option Elab.async false

/-! ### The codes of bytes 2 and 3 (R123 to R126) -/

theorem flacBlockSize_isSome : ∀ c < 16, (flacBlockSize c).isSome = (c != 0) := by decide

/-- STREAMINFO is read under code 0 alone. -/
theorem flacSampleRate_direct {c : Nat} (direct : c ≠ 0) (si : Option StreamInfo) :
    flacSampleRate c si = flacSampleRate c none := by
  unfold flacSampleRate
  split
  · contradiction
  all_goals rfl

theorem flacSampleRate_none_isSome : ∀ c < 16, (flacSampleRate c none).isSome = (c != 0 && c != 15) := by decide

theorem flacSampleRate_isSome {c : Nat} (small : c < 16) (si : Option StreamInfo) :
    (flacSampleRate c si).isSome = true ↔ c ≠ 15 ∧ (c = 0 → si.isSome = true) := by
  by_cases zero : c = 0
  · subst zero
    simp [flacSampleRate]
  · rw [flacSampleRate_direct zero, flacSampleRate_none_isSome c small]
    simp [zero]

theorem flacChannels_table : ∀ c < 16, flacChannels c = flacChannelTable[c]? := by decide

theorem flacBitDepth_table {c : Nat} (small : c < 8) (si : Option StreamInfo) :
    [si.map (·.bitsPerSample), some 8, some 12, none, some 16, some 20, some 24, none][c]?
      = some (flacBitDepth c si) := by
  match c, small with
  | 0, _ | 1, _ | 2, _ | 3, _ | 4, _ | 5, _ | 6, _ | 7, _ => rfl

theorem flacBitDepth_isSome {c : Nat} (small : c < 8) (si : Option StreamInfo) :
    (flacBitDepth c si).isSome = true ↔ (c ≠ 3 ∧ c ≠ 7) ∧ (c = 0 → si.isSome = true) := by
  match c, small with
  | 0, _ => simp [flacBitDepth]
  | 1, _ | 2, _ | 3, _ | 4, _ | 5, _ | 6, _ | 7, _ => simp [flacBitDepth]

/-! ### The fixed fields -/

/-- What the fixed fields of a FLAC header hold of its bytes. -/
structure FlacCommon (b : Bytes) (si : Option StreamInfo) (f : FlacFixed) : Prop where
  sync : byteAt b 0 = 0xFF ∧ (byteAt b 1 = 0xF8 ∨ byteAt b 1 = 0xF9)
  blockingStrategy : f.blockingStrategy = bit (byteAt b 1) 0
  bsCode : f.bsCode = (byteAt b 2).extractLsb' 4 4
  blockSize : flacBlockSize (field (byteAt b 2) 7 4) = some f.blockSize
  srCode : f.srCode = (byteAt b 2).extractLsb' 0 4
  sampleRate : flacSampleRate (field (byteAt b 2) 3 0) si = some f.sampleRate
  chCode : f.chCode = (byteAt b 3).extractLsb' 4 4
  channels : flacChannels (field (byteAt b 3) 7 4) = some (f.channels, f.channelMode)
  ssCode : f.ssCode = (byteAt b 3).extractLsb' 1 3
  bitDepth : flacBitDepth (field (byteAt b 3) 3 1) si = some f.bitDepth
  reserved : bit (byteAt b 3) 0 = false

section
variable {b : Bytes} {si : Option StreamInfo} {f : FlacFixed} {n : Nat}

theorem flacFixedOf_common (fixed : flacFixedOf b si = some f) : FlacCommon b si f := by
  unfold flacFixedOf at fixed
  simp only at fixed
  split at fixed
  · next sync =>
    split at fixed
    · next size rate channels depth =>
      split at fixed
      · cases fixed
      · next clear =>
        cases fixed
        exact { sync, blockSize := size, sampleRate := rate, channels, bitDepth := depth,
                reserved := Bool.eq_false_of_not_eq_true clear, blockingStrategy := rfl, bsCode := rfl, srCode := rfl,
                chCode := rfl, ssCode := rfl }
    · cases fixed
  · cases fixed

theorem flacReserved_eq_false_iff (b : Bytes) (hasInfo : Bool) : flacReserved b hasInfo = false ↔
    (byteAt b 0 = 0xFF ∧ (byteAt b 1 = 0xF8 ∨ byteAt b 1 = 0xF9)) ∧ field (byteAt b 2) 7 4 ≠ 0
      ∧ (field (byteAt b 2) 3 0 ≠ 15 ∧ (field (byteAt b 2) 3 0 = 0 → hasInfo = true)) ∧ field (byteAt b 3) 7 4 < 11
      ∧ ((field (byteAt b 3) 3 1 ≠ 3 ∧ field (byteAt b 3) 3 1 ≠ 7) ∧ (field (byteAt b 3) 3 1 = 0 → hasInfo = true))
      ∧ bit (byteAt b 3) 0 = false := by
  simp only [flacReserved, Bool.or_eq_false_iff, bne_eq_false_iff_eq, beq_eq_false_iff_ne, decide_eq_false_iff_not,
    Bool.and_eq_false_iff, Bool.not_eq_false', not_le]
  tauto

/-- R66's reserved codes are those the decoder's checks of bytes 0 to 3 refuse. -/
theorem flacFixedOf_isSome (b : Bytes) (si : Option StreamInfo) :
    (flacFixedOf b si).isSome = true ↔ flacReserved b si.isSome = false := by
  have size := flacBlockSize_isSome _ (field_lt (byteAt b 2) 7 4)
  have rate := flacSampleRate_isSome (field_lt (byteAt b 2) 3 0) si
  have channels := flacChannels_table _ (field_lt (byteAt b 3) 7 4)
  have depth := flacBitDepth_isSome (field_lt (byteAt b 3) 3 1) si
  rw [flacReserved_eq_false_iff]
  constructor
  · intro some
    obtain ⟨f, fixed⟩ := Option.isSome_iff_exists.mp some
    have c := flacFixedOf_common fixed
    rw [c.blockSize] at size
    rw [c.channels] at channels
    refine ⟨c.sync, by simpa using size, rate.mp (by rw [c.sampleRate]; rfl), ?_,
      depth.mp (by rw [c.bitDepth]; rfl), c.reserved⟩
    exact (List.getElem?_eq_some_iff.mp channels.symm).1
  · rintro ⟨sync, sized, rated, inside, deep, clear⟩
    obtain ⟨x, hx⟩ := Option.isSome_iff_exists.mp (size.trans (by simpa using sized))
    obtain ⟨y, hy⟩ := Option.isSome_iff_exists.mp (rate.mpr rated)
    obtain ⟨z, hz⟩ := Option.isSome_iff_exists.mp (depth.mpr deep)
    rw [List.getElem?_eq_getElem inside] at channels
    unfold flacFixedOf
    simp only [if_pos sync, hx, hy, hz, channels, clear]
    rfl

/-! ### What the codes make of the bytes behind the coded number (R127, R129, R130) -/

theorem flacBlockSize_extra : ∀ c < 16, ∀ x ∈ flacBlockSize c,
    x.extra = if c = 6 then 1 else if c = 7 then 2 else 0 := by decide

theorem FlacCommon.blockSize_extra (c : FlacCommon b si f) : f.blockSize.extra
    = if field (byteAt b 2) 7 4 = 6 then 1 else if field (byteAt b 2) 7 4 = 7 then 2 else 0 :=
  flacBlockSize_extra _ (field_lt _ _ _) _ c.blockSize

theorem flacSampleRate_extra : ∀ c < 16, ∀ x ∈ flacSampleRate c none,
    x.extra = if c = 12 then 1 else if c = 13 ∨ c = 14 then 2 else 0 := by decide

theorem FlacCommon.sampleRate_extra (c : FlacCommon b si f) : f.sampleRate.extra
    = if field (byteAt b 2) 3 0 = 12 then 1
      else if field (byteAt b 2) 3 0 = 13 ∨ field (byteAt b 2) 3 0 = 14 then 2 else 0 := by
  have coded := c.sampleRate
  by_cases zero : field (byteAt b 2) 3 0 = 0
  · rw [zero] at coded ⊢
    obtain ⟨i, -, value⟩ := Option.map_eq_some_iff.mp coded
    rw [← value]
    rfl
  · rw [flacSampleRate_direct zero] at coded
    exact flacSampleRate_extra _ (field_lt _ _ _) _ coded

theorem FlacCommon.headerLength (c : FlacCommon b si f) : flacHeaderLength f n = flacLengthOf b n := by
  rw [flacHeaderLength, flacLengthOf, c.blockSize_extra, c.sampleRate_extra]
  omega

theorem FlacCommon.rateOffset (c : FlacCommon b si f) : 4 + n + f.blockSize.extra = flacRateOffset b n := by
  rw [flacRateOffset, c.blockSize_extra]

theorem flacLengthOf_bounds (b : Bytes) (least : 1 ≤ n) (most : n ≤ 7) :
    6 ≤ flacLengthOf b n ∧ flacLengthOf b n ≤ 16 := by
  unfold flacLengthOf
  split_ifs <;> omega

theorem flacBlockSize_values : ∀ c < 16, ∀ x ∈ flacBlockSize c, x = .extended 1 ∨ x = .extended 2
    ∨ x = .value ([0, 192, 576, 1152, 2304, 4608, 0, 0, 256, 512, 1024, 2048, 4096, 8192, 16384, 32768].getD c 0) := by
  decide

theorem FlacCommon.blockSizeAt (c : FlacCommon b si f) : flacBlockSizeAt f b (4 + n) = flacSizeOf b n := by
  have coded := c.blockSize
  unfold flacSizeOf flacBlockSizeAt
  cases size : f.blockSize with
  | value v =>
    rw [size] at coded
    obtain ⟨not6, not7⟩ := flacBlockSize_value coded
    have table := flacBlockSize_values _ (field_lt _ _ _) _ coded
    simp only
    simpa using table
  | extended k =>
    rw [size] at coded
    rcases flacBlockSize_extended coded with ⟨code, rfl⟩ | ⟨code, rfl⟩ <;> simp only [code]

theorem flacSampleRate_values : ∀ c < 16, ∀ x ∈ flacSampleRate c none, x = .extended 1 ∨ x = .extended 2
    ∨ x = .value ([0, 88200, 176400, 192000, 8000, 16000, 22050, 24000, 32000, 44100, 48000, 96000].getD c 0) := by
  decide

theorem FlacCommon.srCode_eq_14 (c : FlacCommon b si f) : f.srCode = 14 ↔ field (byteAt b 2) 3 0 = 14 := by
  rw [c.srCode, ← BitVec.toNat_inj, toNat_extractLsb'_eq_field _ 3 0]
  rfl

theorem FlacCommon.sampleRateAt (c : FlacCommon b si f) :
    flacSampleRateAt f b (flacRateOffset b n) = flacRateOf b n si := by
  have coded := c.sampleRate
  have tens := c.srCode_eq_14
  unfold flacRateOf flacSampleRateAt
  cases rate : f.sampleRate with
  | value v =>
    rw [rate] at coded
    obtain ⟨not12, not13, not14⟩ := flacSampleRate_value coded
    simp only
    split
    · next zero =>
      rw [zero] at coded
      obtain ⟨i, info, value⟩ := Option.map_eq_some_iff.mp coded
      cases value
      rw [info]
      rfl
    · contradiction
    · contradiction
    · contradiction
    · next direct _ _ _ =>
      rw [flacSampleRate_direct direct] at coded
      simpa using flacSampleRate_values _ (field_lt _ _ _) _ coded
  | extended k =>
    rw [rate] at coded
    rcases flacSampleRate_extended coded with ⟨code, rfl⟩ | ⟨code, rfl⟩ | ⟨code, rfl⟩
    · simp only [code]
    · simp only [code, tens]
      rfl
    · simp only [code, tens]
      rfl

/-- R129's block sizes. -/
theorem flacSizeOf_bounds (b : Bytes) (n : Nat) (coded : field (byteAt b 2) 7 4 ≠ 0) :
    1 ≤ flacSizeOf b n ∧ flacSizeOf b n ≤ 65536 := by
  have one := (byteAt b (4 + n)).isLt
  have two := be16_lt b (4 + n)
  have table : ∀ c < 16, c ≠ 0 → c ≠ 6 → c ≠ 7 →
      1 ≤ [0, 192, 576, 1152, 2304, 4608, 0, 0, 256, 512, 1024, 2048, 4096, 8192, 16384, 32768].getD c 0
      ∧ [0, 192, 576, 1152, 2304, 4608, 0, 0, 256, 512, 1024, 2048, 4096, 8192, 16384, 32768].getD c 0 ≤ 65536 := by
    decide
  unfold flacSizeOf
  split
  · omega
  · omega
  · next not6 not7 => exact table _ (field_lt _ _ _) coded not6 not7

end

/-! ### The coded number (R127, R128) -/

theorem flacCountOf_eq (x : Byte) : flacCountOf x = codedLength x := by
  revert x
  decide

theorem field_5_0 (x : Byte) : field x 5 0 = x.toNat % 2 ^ 6 := by
  rw [field, pow_zero, Nat.div_one]

/-- The continuation bytes' bits, most significant first. -/
theorem codedTail_eq_sum (first : Nat) (l : Bytes) : codedTail first l = first * 2 ^ (6 * l.length)
    + ((List.range l.length).map fun i => (byteAt l i).toNat % 2 ^ 6 * 2 ^ (6 * (l.length - 1 - i))).sum := by
  induction l generalizing first with
  | nil => simp [codedTail]
  | cons x l ih =>
    have tail : ∀ i, l.length - 1 - i = l.length - (i + 1) := fun i => by omega
    have head : codedTail first (x :: l) = codedTail (first * 2 ^ 6 + x.toNat % 2 ^ 6) l := by
      rw [← field_5_0]
      rfl
    rw [head, ih, List.length_cons, List.range_succ_eq_map, List.map_cons, List.map_map, List.sum_cons]
    simp only [Function.comp_def, Nat.succ_eq_add_one, byteAt, List.getD_cons_succ, List.getD_cons_zero,
      Nat.add_sub_cancel, Nat.sub_zero, tail]
    ring

theorem codedTail_lt (first : Nat) (l : Bytes) : codedTail first l < (first + 1) * 2 ^ (6 * l.length) := by
  induction l generalizing first with
  | nil => simp [codedTail]
  | cons x l ih =>
    have six := field_lt x 5 0
    calc codedTail first (x :: l) = codedTail (first * 2 ^ 6 + field x 5 0) l := rfl
      _ < (first * 2 ^ 6 + field x 5 0 + 1) * 2 ^ (6 * l.length) := ih _
      _ ≤ ((first + 1) * 2 ^ 6) * 2 ^ (6 * l.length) := Nat.mul_le_mul_right _ (by omega)
      _ = (first + 1) * 2 ^ (6 * (x :: l).length) := by rw [List.length_cons]; ring

/-- The first byte's share of the number. -/
def codedFirst (x : Byte) (n : Nat) : Nat :=
  if n = 1 then x.toNat else x.toNat % 2 ^ (7 - n)

theorem codedMask : ∀ n < 8, ((0x7F : Byte) >>> n).toNat = 2 ^ (7 - n) - 1 := by decide

theorem codedFirst_eq {n : Nat} (x : Byte) (most : n ≤ 7) :
    (if n = 1 then x.toNat else (x &&& ((0x7F : Byte) >>> n)).toNat) = codedFirst x n := by
  rw [codedFirst, BitVec.toNat_and, codedMask n (by omega), Nat.and_two_pow_sub_one_eq_mod]

section
variable {b : Bytes} {n : Nat}

theorem codedTailBytes_length (most : n ≤ 7) (inside : 4 + n ≤ b.length) (least : 1 ≤ n) :
    ((b.drop 5).take (n - 1)).length = n - 1 := by
  rw [List.length_take, List.length_drop]
  omega

/-- R128's number is its first byte's share and six bits of each continuation byte. -/
theorem flacNumberOf_eq (least : 1 ≤ n) (most : n ≤ 7) (inside : 4 + n ≤ b.length) :
    flacNumberOf b n = codedTail (codedFirst (byteAt b 4) n) ((b.drop 5).take (n - 1)) := by
  have bytes : ∀ i ∈ List.range (n - 1), (byteAt ((b.drop 5).take (n - 1)) i).toNat % 2 ^ 6 * 2 ^ (6 * (n - 1 - 1 - i))
      = (byteAt b (5 + i)).toNat % 2 ^ 6 * 2 ^ (6 * (n - 2 - i)) := by
    intro i mem
    have below := List.mem_range.mp mem
    rw [Nat.sub_sub n 1 1]
    simp [byteAt, below, List.getElem?_drop]
  rw [codedTail_eq_sum, codedTailBytes_length most inside least, List.map_congr_left bytes]
  rfl

theorem flacNumberOf_lt (least : 1 ≤ n) (most : n ≤ 7) (inside : 4 + n ≤ b.length) : flacNumberOf b n < 2 ^ 36 := by
  have bound := codedTail_lt (codedFirst (byteAt b 4) n) ((b.drop 5).take (n - 1))
  rw [← flacNumberOf_eq least most inside, codedTailBytes_length most inside least] at bound
  refine bound.trans_le ?_
  by_cases single : n = 1
  · have byte := (byteAt b 4).isLt
    subst single
    simp only [codedFirst, if_pos]
    omega
  · have share : codedFirst (byteAt b 4) n < 2 ^ (7 - n) := by
      rw [codedFirst, if_neg single]
      exact Nat.mod_lt _ (Nat.two_pow_pos _)
    calc (codedFirst (byteAt b 4) n + 1) * 2 ^ (6 * (n - 1)) ≤ 2 ^ (7 - n) * 2 ^ (6 * (n - 1)) :=
          Nat.mul_le_mul_right _ share
      _ = 2 ^ (7 - n + 6 * (n - 1)) := (pow_add _ _ _).symm
      _ ≤ 2 ^ 36 := Nat.pow_le_pow_right (by decide) (by omega)

theorem codedNumber_eq (least : 1 ≤ n) (most : n ≤ 7) (inside : 4 + n ≤ b.length) : codedNumber (b.drop 4) n
    = if ((b.drop 5).take (n - 1)).any (fun x => field x 7 6 != 2) then none else some (flacNumberOf b n) := by
  have first : byteAt (b.drop 4) 0 = byteAt b 4 := by simp [byteAt]
  have tail : slice (b.drop 4) 1 n = (b.drop 5).take (n - 1) := by rw [slice, List.drop_drop]
  have malformed : ((b.drop 5).take (n - 1)).all (fun x => field x 7 6 == 2)
      = !((b.drop 5).take (n - 1)).any (fun x => field x 7 6 != 2) := by
    rw [List.not_any_eq_all_not]
    simp only [bne, Bool.not_not]
  unfold codedNumber
  simp only [first, tail, codedFirst_eq _ most, ← flacNumberOf_eq least most inside, malformed]
  cases ((b.drop 5).take (n - 1)).any (fun x => field x 7 6 != 2) <;> rfl

/-! ### The checks behind the fixed fields, and the record (R128 to R132) -/

/-- A header that ends with its CRC-8 comes to zero (R131). -/
theorem crc8_take_succ {k : Nat} (inside : k < b.length) :
    crc8 (b.take (k + 1)) = 0 ↔ crc8 (b.take k) = byteAt b k := by
  have last : b.take (k + 1) = b.take k ++ [byteAt b k] := by
    rw [singleton_byteAt inside, take_append_slice b (Nat.le_succ k)]
  rw [last, crc8, List.foldl_append]
  exact crc8Byte_eq_zero_iff _ _

/-- The record of a header whose checks pass. -/
def flacHeaderOf (f : FlacFixed) (b : Bytes) (n : Nat) (si : Option StreamInfo) : FlacHeader where
  headerLength := flacLengthOf b n
  blockingStrategy := f.blockingStrategy
  bsCode := f.bsCode
  blockSize := flacSizeOf b n
  srCode := f.srCode
  sampleRate := flacRateOf b n si
  chCode := f.chCode
  channels := f.channels
  channelMode := f.channelMode
  ssCode := f.ssCode
  bitDepth := f.bitDepth
  frameNumber := if f.blockingStrategy then none else some (flacNumberOf b n)
  sampleNumber := if f.blockingStrategy then some (flacNumberOf b n) else none
  crc8 := byteAt b (flacLengthOf b n - 1)
  samples := flacSizeOf b n
  bitrate := none

theorem flacHeaderOf_number (f : FlacFixed) (b : Bytes) (n : Nat) (si : Option StreamInfo) :
    ((flacHeaderOf f b n si).frameNumber, (flacHeaderOf f b n si).sampleNumber)
      = if f.blockingStrategy then (none, some (flacNumberOf b n)) else (some (flacNumberOf b n), none) := by
  simp only [flacHeaderOf]
  split <;> rfl

theorem flacTrailerBad_eq_false_iff (b : Bytes) (n : Nat) (si : Option StreamInfo) : flacTrailerBad b n si = false ↔
    ((b.drop 5).take (n - 1)).any (fun x => field x 7 6 != 2) = false ∧ flacRateOf b n si ≠ 0
      ∧ crc8 (b.take (flacLengthOf b n - 1)) = byteAt b (flacLengthOf b n - 1) := by
  simp only [flacTrailerBad, Bool.or_eq_false_iff, bne_eq_false_iff_eq, beq_eq_false_iff_ne, and_assoc]

theorem flacRecord_eq {si : Option StreamInfo} {f : FlacFixed} (c : FlacCommon b si f) (least : 1 ≤ n) (most : n ≤ 7)
    (whole : flacLengthOf b n ≤ b.length) :
    flacRecord f b n = if flacTrailerBad b n si = true then none else some (flacHeaderOf f b n si) := by
  have inside : 4 + n ≤ b.length := le_trans (by unfold flacLengthOf; omega) whole
  have good := flacTrailerBad_eq_false_iff b n si
  unfold flacRecord
  simp only [codedNumber_eq least most inside, c.headerLength, c.rateOffset, c.sampleRateAt, c.blockSizeAt]
  cases malformed : ((b.drop 5).take (n - 1)).any (fun x => field x 7 6 != 2) with
  | true => simp [flacTrailerBad, malformed]
  | false =>
    simp only [malformed, true_and] at good
    by_cases rate : flacRateOf b n si = 0
    · simp [flacTrailerBad, malformed, rate]
    by_cases check : crc8 (b.take (flacLengthOf b n - 1)) = byteAt b (flacLengthOf b n - 1)
    · simp only [if_neg rate, if_pos check, good.mpr ⟨rate, check⟩]
      rfl
    · simp [flacTrailerBad, malformed, rate, check]

/-! ### The record holds every bit of bytes 0 to 3 -/

theorem flacByte1_fields : ∀ x : Byte, x = 0xF8 ∨ x = 0xF9 → bitsByte (0xF8 + (bit x 0).toNat) = x := by
  rintro x (rfl | rfl) <;> rfl

theorem flacByte2_fields (x : Byte) : bitsByte ((x.extractLsb' 4 4).toNat * 16 + (x.extractLsb' 0 4).toNat) = x := by
  refine bitsByte_eq ?_
  rw [toNat_extractLsb'_eq_field x 7 4, toNat_extractLsb'_eq_field x 3 0]
  simp only [field]
  omega

theorem flacByte3_fields {x : Byte} (clear : bit x 0 = false) :
    bitsByte ((x.extractLsb' 4 4).toNat * 16 + (x.extractLsb' 1 3).toNat * 2) = x := by
  have even := bit_toNat x 0
  rw [clear, Bool.toNat_false] at even
  refine bitsByte_eq ?_
  rw [toNat_extractLsb'_eq_field x 7 4, toNat_extractLsb'_eq_field x 3 1]
  simp only [field]
  omega

theorem flacFixedBytes_header {si : Option StreamInfo} {f : FlacFixed} (c : FlacCommon b si f) (long : 4 ≤ b.length) :
    flacFixedBytes (flacHeaderOf f b n si) = b.take 4 := by
  simp only [flacFixedBytes, flacHeaderOf]
  rw [c.blockingStrategy, c.bsCode, c.srCode, c.chCode, c.ssCode, flacByte1_fields _ c.sync.2, flacByte2_fields,
    flacByte3_fields c.reserved, take_eq_byteAt long, ← c.sync.1]
  rfl

/-! ### The decoder without its cache -/

/-- R121's stages behind the fixed fields. -/
def flacStages (b : Bytes) (f : FlacFixed) : DecodeResult FlacHeader :=
  if b.length < 5 then .need 5
  else (codedLength (byteAt b 4)).elim .invalid fun n =>
    if b.length < flacHeaderLength f n then .need (flacHeaderLength f n)
    else (flacRecord f b n).elim .invalid .parsed

variable {s : State}

theorem exec_flacHdr_short (short : b.length < 4) :
    exec (.flacHdr b) s = .next { s with result := .flac (.need 4) } := by
  have need : decodeFlac b (flacReference s) s = (.need 4, s) := if_pos short
  rw [exec_flacHdr, need]
  rfl

theorem exec_flacHdr_fresh (off : s.cacheEn = false) (long : 4 ≤ b.length) : exec (.flacHdr b) s = .next
    { s with result := .flac ((flacFixedOf b (flacReference s)).elim .invalid (flacStages b)) } := by
  have miss : cacheLookup (flacKey b) s = (none, s) := cacheLookup_miss (.inl off)
  have fresh : decodeFlac b (flacReference s) s
      = ((flacFixedOf b (flacReference s)).elim .invalid (flacStages b), s) := by
    rw [decodeFlac, if_neg (Nat.not_lt.mpr long), miss]
    simp only [cachedFlac, Option.orElse]
    cases flacFixedOf b (flacReference s) with
    | none => rfl
    | some f =>
      simp only [Option.elim, flacStages]
      split
      · rfl
      cases codedLength (byteAt b 4) with
      | none => rfl
      | some n =>
        simp only
        split
        · rfl
        cases flacRecord f b n <;> rfl
  rw [exec_flacHdr, fresh]
  rfl

theorem exec_flacHdr_reserved (off : s.cacheEn = false) (long : 4 ≤ b.length)
    (bad : flacReserved b (flacReference s).isSome = true) :
    exec (.flacHdr b) s = .next { s with result := .flac .invalid } := by
  have none : flacFixedOf b (flacReference s) = none := by
    rw [← Option.not_isSome_iff_eq_none, flacFixedOf_isSome, bad]
    decide
  rw [exec_flacHdr_fresh off long, none]
  rfl

theorem exec_flacHdr_passed (off : s.cacheEn = false) (long : 4 ≤ b.length)
    (good : flacReserved b (flacReference s).isSome = false) : ∃ f, FlacCommon b (flacReference s) f
      ∧ exec (.flacHdr b) s = .next { s with result := .flac (flacStages b f) } := by
  obtain ⟨f, fixed⟩ := Option.isSome_iff_exists.mp ((flacFixedOf_isSome b _).mpr good)
  exact ⟨f, flacFixedOf_common fixed, by rw [exec_flacHdr_fresh off long, fixed]; rfl⟩

theorem flacStages_count {f : FlacFixed} (long : 5 ≤ b.length) : flacStages b f
    = (flacCountOf (byteAt b 4)).elim .invalid fun n =>
        if b.length < flacHeaderLength f n then .need (flacHeaderLength f n)
        else (flacRecord f b n).elim .invalid .parsed := by
  rw [flacStages, if_neg (Nat.not_lt.mpr long), flacCountOf_eq]

theorem flacStages_whole {si : Option StreamInfo} {f : FlacFixed} (c : FlacCommon b si f) (long : 5 ≤ b.length)
    (count : flacCountOf (byteAt b 4) = some n) (whole : flacLengthOf b n ≤ b.length) :
    flacStages b f = if flacTrailerBad b n si = true then .invalid else .parsed (flacHeaderOf f b n si) := by
  obtain ⟨least, most⟩ := codedLength_bounds ((flacCountOf_eq _).symm.trans count)
  rw [flacStages_count long, count, Option.elim_some, c.headerLength, if_neg (Nat.not_lt.mpr whole),
    flacRecord_eq c least most whole]
  split <;> rfl

end

/-- Settles O27: the record is made of the bytes' fields, and the fixed fields put together are the bytes. -/
theorem flacHeaderDecodes : Obligations.FlacHeaderDecodes := by
  intro b s off info
  refine ⟨exec_flacHdr_short, exec_flacHdr_reserved off, fun four good => ?_, fun long good => ?_⟩
  · obtain ⟨f, -, run⟩ := exec_flacHdr_passed off four.ge good
    have need : flacStages b f = .need 5 := if_pos (by omega)
    rw [run, need]
  obtain ⟨f, c, run⟩ := exec_flacHdr_passed off (by omega) good
  rw [run]
  refine ⟨fun malformed => by rw [flacStages_count long, malformed]; rfl, fun n count => ?_⟩
  obtain ⟨least, most⟩ := codedLength_bounds ((flacCountOf_eq _).symm.trans count)
  obtain ⟨six, sixteen⟩ := flacLengthOf_bounds b least most
  refine ⟨six, sixteen, fun short => ?_, fun whole bad => ?_, fun whole passed => ?_⟩
  · rw [flacStages_count long, count, Option.elim_some, c.headerLength, if_pos short]
  · rw [flacStages_whole c long count whole, if_pos bad]
  obtain ⟨-, rate, check⟩ := (flacTrailerBad_eq_false_iff b n info).mp passed
  obtain ⟨sizeLeast, sizeMost⟩ := flacSizeOf_bounds b n fun zero => by
    have size := c.blockSize
    rw [zero] at size
    cases size
  refine ⟨flacHeaderOf f b n info, ?_, rfl, flacFixedBytes_header c (by omega), rfl, rfl, sizeLeast, sizeMost, rfl,
    Nat.one_le_iff_ne_zero.mpr rate, ?_, ?_, ?_, flacNumberOf_lt least most ?_, rfl, ?_, rfl⟩
  · rw [flacStages_whole c long count whole, if_neg (by rw [passed]; decide)]
  · change flacChannelTable[f.chCode.toNat]? = some (f.channels, f.channelMode)
    rw [c.chCode, toNat_extractLsb'_eq_field _ 7 4, ← flacChannels_table _ (field_lt _ _ _), c.channels]
  · have depth := flacBitDepth_table (field_lt (byteAt b 3) 3 1) info
    rw [c.bitDepth, ← toNat_extractLsb'_eq_field, ← c.ssCode] at depth
    exact depth
  · exact flacHeaderOf_number f b n info
  · exact le_trans (by unfold flacLengthOf; omega) whole
  · have last := (crc8_take_succ (b := b) (k := flacLengthOf b n - 1) (by omega)).mpr check
    rwa [Nat.sub_add_cancel (by omega)] at last

end Sys2Proof.Machine
